-- ==== Sys2Proof/Word.lean ====
section
/-! DEFINITION. The value types of the machine: bytes, 16-bit words and sparse stores (00_scope R6, R8). -/

namespace Sys2Proof

/-- A byte: the CPU's data width (00_scope R6). -/
abbrev Byte := BitVec 8

/-- A 16-bit word: a CPU address or the program counter (00_scope R6). -/
abbrev Word := BitVec 16

/-- A sparse store of `w`-bit cells: index and value pairs, indexes strictly rising, no value zero.
An index that is not listed reads as zero (log 3); the operations are in Machine/Memory.lean. -/
abbrev Store (w : Nat) := List (Nat × BitVec w)

/-- A byte memory is a sparse store of bytes, that is, a list of `Host.Cell`. -/
abbrev Memory := List Host.Cell

/-- A colour word of the frame buffer (50_ppu R300). -/
abbrev Colour := BitVec 32

end Sys2Proof
end

