-- ==== Sys2Proof/Syntax.lean ====
section
/-! DEFINITION. The instructions and the thirteen addressing modes. Every one of the 151 documented rows of
spec/opcode_table.json is a constructor. The 105 rows `NOP*` are ten constructors, one per operand shape, that carry
the opcode byte: Lean's runtime allows an inductive type at most 244 constructors with fields (log 22).
A one-byte operand is `b1`; a two-byte operand is the word `b2 ++ b1` (30_encoding R104). The undocumented
opcodes keep their operand bytes, so that an encoding can be given back (30_encoding R122). -/

namespace Sys2Proof

/-- The addressing modes (30_encoding R103, R106 to R118). -/
inductive Mode where
  | imp
  | acc
  | imm
  | zp
  | zpx
  | zpy
  | abs
  | absx
  | absy
  | ind
  | indx
  | indy
  | rel
  deriving DecidableEq, Repr

/-- Instruction length in bytes by addressing mode (30_encoding R103). -/
def Mode.length : Mode → Nat
  | .imp  => 1
  | .acc  => 1
  | .imm  => 2
  | .zp   => 2
  | .zpx  => 2
  | .zpy  => 2
  | .indx => 2
  | .indy => 2
  | .rel  => 2
  | .abs  => 3
  | .absx => 3
  | .absy => 3
  | .ind  => 3

/-- The instruction set: the 151 documented opcodes and the 105 undocumented ones (30_encoding R119, R122). -/
inductive Instr where
  /-- `00` `BRK`, mode `imp` (R230). -/
  | brk
  /-- `01` `ORA ($nn,X)`, mode `indx` (R173). -/
  | oraIndx (b1 : Byte)
  /-- `NOP*` of shape `imp`: opcodes 02 12 1A 22 32 3A 42 52 5A 62 72 7A 92 B2 D2 DA F2 FA (R240). -/
  | nopStarImp (op : Byte)
  /-- `NOP*` of shape `indx`: opcodes 03 23 43 63 83 A3 C3 E3 (R240). -/
  | nopStarIndx (op : Byte) (b1 : Byte)
  /-- `NOP*` of shape `zp`: opcodes 04 07 27 44 47 64 67 87 A7 C7 E7 (R240). -/
  | nopStarZp (op : Byte) (b1 : Byte)
  /-- `05` `ORA $nn`, mode `zp` (R173). -/
  | oraZp (b1 : Byte)
  /-- `06` `ASL $nn`, mode `zp` (R190). -/
  | aslZp (b1 : Byte)
  /-- `08` `PHP`, mode `imp` (R157). -/
  | php
  /-- `09` `ORA #$nn`, mode `imm` (R173). -/
  | oraImm (b1 : Byte)
  /-- `0A` `ASL A`, mode `acc` (R190). -/
  | aslAcc
  /-- `NOP*` of shape `imm`: opcodes 0B 2B 4B 6B 80 82 89 8B AB C2 CB E2 EB (R240). -/
  | nopStarImm (op : Byte) (b1 : Byte)
  /-- `NOP*` of shape `abs`: opcodes 0C 0F 2F 4F 6F 8F AF CF EF (R240). -/
  | nopStarAbs (op : Byte) (w : Word)
  /-- `0D` `ORA $nnnn`, mode `abs` (R173). -/
  | oraAbs (w : Word)
  /-- `0E` `ASL $nnnn`, mode `abs` (R190). -/
  | aslAbs (w : Word)
  /-- `10` `BPL label`, mode `rel` (R214). -/
  | bpl (b1 : Byte)
  /-- `11` `ORA ($nn),Y`, mode `indy` (R173). -/
  | oraIndy (b1 : Byte)
  /-- `NOP*` of shape `indy`: opcodes 13 33 53 73 93 B3 D3 F3 (R240). -/
  | nopStarIndy (op : Byte) (b1 : Byte)
  /-- `NOP*` of shape `zpx`: opcodes 14 17 34 37 54 57 74 77 D4 D7 F4 F7 (R240). -/
  | nopStarZpx (op : Byte) (b1 : Byte)
  /-- `15` `ORA $nn,X`, mode `zpx` (R173). -/
  | oraZpx (b1 : Byte)
  /-- `16` `ASL $nn,X`, mode `zpx` (R190). -/
  | aslZpx (b1 : Byte)
  /-- `18` `CLC`, mode `imp` (R232). -/
  | clc
  /-- `19` `ORA $nnnn,Y`, mode `absy` (R173). -/
  | oraAbsy (w : Word)
  /-- `NOP*` of shape `absy`: opcodes 1B 3B 5B 7B 9B 9E 9F BB BF DB FB (R240). -/
  | nopStarAbsy (op : Byte) (w : Word)
  /-- `NOP*` of shape `absx`: opcodes 1C 1F 3C 3F 5C 5F 7C 7F 9C DC DF FC FF (R240). -/
  | nopStarAbsx (op : Byte) (w : Word)
  /-- `1D` `ORA $nnnn,X`, mode `absx` (R173). -/
  | oraAbsx (w : Word)
  /-- `1E` `ASL $nnnn,X`, mode `absx` (R190). -/
  | aslAbsx (w : Word)
  /-- `20` `JSR $nnnn`, mode `abs` (R211). -/
  | jsr (w : Word)
  /-- `21` `AND ($nn,X)`, mode `indx` (R172). -/
  | andIndx (b1 : Byte)
  /-- `24` `BIT $nn`, mode `zp` (R178). -/
  | bitZp (b1 : Byte)
  /-- `25` `AND $nn`, mode `zp` (R172). -/
  | andZp (b1 : Byte)
  /-- `26` `ROL $nn`, mode `zp` (R192). -/
  | rolZp (b1 : Byte)
  /-- `28` `PLP`, mode `imp` (R159). -/
  | plp
  /-- `29` `AND #$nn`, mode `imm` (R172). -/
  | andImm (b1 : Byte)
  /-- `2A` `ROL A`, mode `acc` (R192). -/
  | rolAcc
  /-- `2C` `BIT $nnnn`, mode `abs` (R178). -/
  | bitAbs (w : Word)
  /-- `2D` `AND $nnnn`, mode `abs` (R172). -/
  | andAbs (w : Word)
  /-- `2E` `ROL $nnnn`, mode `abs` (R192). -/
  | rolAbs (w : Word)
  /-- `30` `BMI label`, mode `rel` (R215). -/
  | bmi (b1 : Byte)
  /-- `31` `AND ($nn),Y`, mode `indy` (R172). -/
  | andIndy (b1 : Byte)
  /-- `35` `AND $nn,X`, mode `zpx` (R172). -/
  | andZpx (b1 : Byte)
  /-- `36` `ROL $nn,X`, mode `zpx` (R192). -/
  | rolZpx (b1 : Byte)
  /-- `38` `SEC`, mode `imp` (R233). -/
  | sec
  /-- `39` `AND $nnnn,Y`, mode `absy` (R172). -/
  | andAbsy (w : Word)
  /-- `3D` `AND $nnnn,X`, mode `absx` (R172). -/
  | andAbsx (w : Word)
  /-- `3E` `ROL $nnnn,X`, mode `absx` (R192). -/
  | rolAbsx (w : Word)
  /-- `40` `RTI`, mode `imp` (R231). -/
  | rti
  /-- `41` `EOR ($nn,X)`, mode `indx` (R174). -/
  | eorIndx (b1 : Byte)
  /-- `45` `EOR $nn`, mode `zp` (R174). -/
  | eorZp (b1 : Byte)
  /-- `46` `LSR $nn`, mode `zp` (R191). -/
  | lsrZp (b1 : Byte)
  /-- `48` `PHA`, mode `imp` (R156). -/
  | pha
  /-- `49` `EOR #$nn`, mode `imm` (R174). -/
  | eorImm (b1 : Byte)
  /-- `4A` `LSR A`, mode `acc` (R191). -/
  | lsrAcc
  /-- `4C` `JMP $nnnn`, mode `abs` (R210). -/
  | jmpAbs (w : Word)
  /-- `4D` `EOR $nnnn`, mode `abs` (R174). -/
  | eorAbs (w : Word)
  /-- `4E` `LSR $nnnn`, mode `abs` (R191). -/
  | lsrAbs (w : Word)
  /-- `50` `BVC label`, mode `rel` (R216). -/
  | bvc (b1 : Byte)
  /-- `51` `EOR ($nn),Y`, mode `indy` (R174). -/
  | eorIndy (b1 : Byte)
  /-- `55` `EOR $nn,X`, mode `zpx` (R174). -/
  | eorZpx (b1 : Byte)
  /-- `56` `LSR $nn,X`, mode `zpx` (R191). -/
  | lsrZpx (b1 : Byte)
  /-- `58` `CLI`, mode `imp` (R234). -/
  | cli
  /-- `59` `EOR $nnnn,Y`, mode `absy` (R174). -/
  | eorAbsy (w : Word)
  /-- `5D` `EOR $nnnn,X`, mode `absx` (R174). -/
  | eorAbsx (w : Word)
  /-- `5E` `LSR $nnnn,X`, mode `absx` (R191). -/
  | lsrAbsx (w : Word)
  /-- `60` `RTS`, mode `imp` (R212). -/
  | rts
  /-- `61` `ADC ($nn,X)`, mode `indx` (R170). -/
  | adcIndx (b1 : Byte)
  /-- `65` `ADC $nn`, mode `zp` (R170). -/
  | adcZp (b1 : Byte)
  /-- `66` `ROR $nn`, mode `zp` (R193). -/
  | rorZp (b1 : Byte)
  /-- `68` `PLA`, mode `imp` (R158). -/
  | pla
  /-- `69` `ADC #$nn`, mode `imm` (R170). -/
  | adcImm (b1 : Byte)
  /-- `6A` `ROR A`, mode `acc` (R193). -/
  | rorAcc
  /-- `6C` `JMP ($nnnn)`, mode `ind` (R210). -/
  | jmpInd (w : Word)
  /-- `6D` `ADC $nnnn`, mode `abs` (R170). -/
  | adcAbs (w : Word)
  /-- `6E` `ROR $nnnn`, mode `abs` (R193). -/
  | rorAbs (w : Word)
  /-- `70` `BVS label`, mode `rel` (R217). -/
  | bvs (b1 : Byte)
  /-- `71` `ADC ($nn),Y`, mode `indy` (R170). -/
  | adcIndy (b1 : Byte)
  /-- `75` `ADC $nn,X`, mode `zpx` (R170). -/
  | adcZpx (b1 : Byte)
  /-- `76` `ROR $nn,X`, mode `zpx` (R193). -/
  | rorZpx (b1 : Byte)
  /-- `78` `SEI`, mode `imp` (R235). -/
  | sei
  /-- `79` `ADC $nnnn,Y`, mode `absy` (R170). -/
  | adcAbsy (w : Word)
  /-- `7D` `ADC $nnnn,X`, mode `absx` (R170). -/
  | adcAbsx (w : Word)
  /-- `7E` `ROR $nnnn,X`, mode `absx` (R193). -/
  | rorAbsx (w : Word)
  /-- `81` `STA ($nn,X)`, mode `indx` (R134). -/
  | staIndx (b1 : Byte)
  /-- `84` `STY $nn`, mode `zp` (R136). -/
  | styZp (b1 : Byte)
  /-- `85` `STA $nn`, mode `zp` (R134). -/
  | staZp (b1 : Byte)
  /-- `86` `STX $nn`, mode `zp` (R135). -/
  | stxZp (b1 : Byte)
  /-- `88` `DEY`, mode `imp` (R199). -/
  | dey
  /-- `8A` `TXA`, mode `imp` (R152). -/
  | txa
  /-- `8C` `STY $nnnn`, mode `abs` (R136). -/
  | styAbs (w : Word)
  /-- `8D` `STA $nnnn`, mode `abs` (R134). -/
  | staAbs (w : Word)
  /-- `8E` `STX $nnnn`, mode `abs` (R135). -/
  | stxAbs (w : Word)
  /-- `90` `BCC label`, mode `rel` (R218). -/
  | bcc (b1 : Byte)
  /-- `91` `STA ($nn),Y`, mode `indy` (R134). -/
  | staIndy (b1 : Byte)
  /-- `94` `STY $nn,X`, mode `zpx` (R136). -/
  | styZpx (b1 : Byte)
  /-- `95` `STA $nn,X`, mode `zpx` (R134). -/
  | staZpx (b1 : Byte)
  /-- `96` `STX $nn,Y`, mode `zpy` (R135). -/
  | stxZpy (b1 : Byte)
  /-- `NOP*` of shape `zpy`: opcodes 97 B7 (R240). -/
  | nopStarZpy (op : Byte) (b1 : Byte)
  /-- `98` `TYA`, mode `imp` (R153). -/
  | tya
  /-- `99` `STA $nnnn,Y`, mode `absy` (R134). -/
  | staAbsy (w : Word)
  /-- `9A` `TXS`, mode `imp` (R155). -/
  | txs
  /-- `9D` `STA $nnnn,X`, mode `absx` (R134). -/
  | staAbsx (w : Word)
  /-- `A0` `LDY #$nn`, mode `imm` (R133). -/
  | ldyImm (b1 : Byte)
  /-- `A1` `LDA ($nn,X)`, mode `indx` (R131). -/
  | ldaIndx (b1 : Byte)
  /-- `A2` `LDX #$nn`, mode `imm` (R132). -/
  | ldxImm (b1 : Byte)
  /-- `A4` `LDY $nn`, mode `zp` (R133). -/
  | ldyZp (b1 : Byte)
  /-- `A5` `LDA $nn`, mode `zp` (R131). -/
  | ldaZp (b1 : Byte)
  /-- `A6` `LDX $nn`, mode `zp` (R132). -/
  | ldxZp (b1 : Byte)
  /-- `A8` `TAY`, mode `imp` (R151). -/
  | tay
  /-- `A9` `LDA #$nn`, mode `imm` (R131). -/
  | ldaImm (b1 : Byte)
  /-- `AA` `TAX`, mode `imp` (R150). -/
  | tax
  /-- `AC` `LDY $nnnn`, mode `abs` (R133). -/
  | ldyAbs (w : Word)
  /-- `AD` `LDA $nnnn`, mode `abs` (R131). -/
  | ldaAbs (w : Word)
  /-- `AE` `LDX $nnnn`, mode `abs` (R132). -/
  | ldxAbs (w : Word)
  /-- `B0` `BCS label`, mode `rel` (R219). -/
  | bcs (b1 : Byte)
  /-- `B1` `LDA ($nn),Y`, mode `indy` (R131). -/
  | ldaIndy (b1 : Byte)
  /-- `B4` `LDY $nn,X`, mode `zpx` (R133). -/
  | ldyZpx (b1 : Byte)
  /-- `B5` `LDA $nn,X`, mode `zpx` (R131). -/
  | ldaZpx (b1 : Byte)
  /-- `B6` `LDX $nn,Y`, mode `zpy` (R132). -/
  | ldxZpy (b1 : Byte)
  /-- `B8` `CLV`, mode `imp` (R236). -/
  | clv
  /-- `B9` `LDA $nnnn,Y`, mode `absy` (R131). -/
  | ldaAbsy (w : Word)
  /-- `BA` `TSX`, mode `imp` (R154). -/
  | tsx
  /-- `BC` `LDY $nnnn,X`, mode `absx` (R133). -/
  | ldyAbsx (w : Word)
  /-- `BD` `LDA $nnnn,X`, mode `absx` (R131). -/
  | ldaAbsx (w : Word)
  /-- `BE` `LDX $nnnn,Y`, mode `absy` (R132). -/
  | ldxAbsy (w : Word)
  /-- `C0` `CPY #$nn`, mode `imm` (R177). -/
  | cpyImm (b1 : Byte)
  /-- `C1` `CMP ($nn,X)`, mode `indx` (R175). -/
  | cmpIndx (b1 : Byte)
  /-- `C4` `CPY $nn`, mode `zp` (R177). -/
  | cpyZp (b1 : Byte)
  /-- `C5` `CMP $nn`, mode `zp` (R175). -/
  | cmpZp (b1 : Byte)
  /-- `C6` `DEC $nn`, mode `zp` (R195). -/
  | decZp (b1 : Byte)
  /-- `C8` `INY`, mode `imp` (R197). -/
  | iny
  /-- `C9` `CMP #$nn`, mode `imm` (R175). -/
  | cmpImm (b1 : Byte)
  /-- `CA` `DEX`, mode `imp` (R198). -/
  | dex
  /-- `CC` `CPY $nnnn`, mode `abs` (R177). -/
  | cpyAbs (w : Word)
  /-- `CD` `CMP $nnnn`, mode `abs` (R175). -/
  | cmpAbs (w : Word)
  /-- `CE` `DEC $nnnn`, mode `abs` (R195). -/
  | decAbs (w : Word)
  /-- `D0` `BNE label`, mode `rel` (R220). -/
  | bne (b1 : Byte)
  /-- `D1` `CMP ($nn),Y`, mode `indy` (R175). -/
  | cmpIndy (b1 : Byte)
  /-- `D5` `CMP $nn,X`, mode `zpx` (R175). -/
  | cmpZpx (b1 : Byte)
  /-- `D6` `DEC $nn,X`, mode `zpx` (R195). -/
  | decZpx (b1 : Byte)
  /-- `D8` `CLD`, mode `imp` (R237). -/
  | cld
  /-- `D9` `CMP $nnnn,Y`, mode `absy` (R175). -/
  | cmpAbsy (w : Word)
  /-- `DD` `CMP $nnnn,X`, mode `absx` (R175). -/
  | cmpAbsx (w : Word)
  /-- `DE` `DEC $nnnn,X`, mode `absx` (R195). -/
  | decAbsx (w : Word)
  /-- `E0` `CPX #$nn`, mode `imm` (R176). -/
  | cpxImm (b1 : Byte)
  /-- `E1` `SBC ($nn,X)`, mode `indx` (R171). -/
  | sbcIndx (b1 : Byte)
  /-- `E4` `CPX $nn`, mode `zp` (R176). -/
  | cpxZp (b1 : Byte)
  /-- `E5` `SBC $nn`, mode `zp` (R171). -/
  | sbcZp (b1 : Byte)
  /-- `E6` `INC $nn`, mode `zp` (R194). -/
  | incZp (b1 : Byte)
  /-- `E8` `INX`, mode `imp` (R196). -/
  | inx
  /-- `E9` `SBC #$nn`, mode `imm` (R171). -/
  | sbcImm (b1 : Byte)
  /-- `EA` `NOP`, mode `imp` (R239). -/
  | nop
  /-- `EC` `CPX $nnnn`, mode `abs` (R176). -/
  | cpxAbs (w : Word)
  /-- `ED` `SBC $nnnn`, mode `abs` (R171). -/
  | sbcAbs (w : Word)
  /-- `EE` `INC $nnnn`, mode `abs` (R194). -/
  | incAbs (w : Word)
  /-- `F0` `BEQ label`, mode `rel` (R221). -/
  | beq (b1 : Byte)
  /-- `F1` `SBC ($nn),Y`, mode `indy` (R171). -/
  | sbcIndy (b1 : Byte)
  /-- `F5` `SBC $nn,X`, mode `zpx` (R171). -/
  | sbcZpx (b1 : Byte)
  /-- `F6` `INC $nn,X`, mode `zpx` (R194). -/
  | incZpx (b1 : Byte)
  /-- `F8` `SED`, mode `imp` (R238). -/
  | sed
  /-- `F9` `SBC $nnnn,Y`, mode `absy` (R171). -/
  | sbcAbsy (w : Word)
  /-- `FD` `SBC $nnnn,X`, mode `absx` (R171). -/
  | sbcAbsx (w : Word)
  /-- `FE` `INC $nnnn,X`, mode `absx` (R194). -/
  | incAbsx (w : Word)
  deriving DecidableEq, Repr

end Sys2Proof
end

