-- ==== Sys2Proof/Decode.lean ====
section
/-! DEFINITION. Byte order helpers, the opcode table as a 16 by 16 matrix (30_encoding R119, R120, R122), the decoder,
total on any bytes, and the encoder. -/

namespace Sys2Proof

/-- `lo(w)`, bits 7 to 0 (00_scope R8). -/
def loByte (w : Word) : Byte := w.extractLsb' 0 8

/-- `hi(w)`, bits 15 to 8 (00_scope R8). -/
def hiByte (w : Word) : Byte := w.extractLsb' 8 8

/-- `hi ++ lo`, the word with `hi` as the high byte (00_scope R8). -/
def joinBytes (hi lo : Byte) : Word := hi ++ lo

/-- `zext_16(b)` (00_scope R8). -/
def zext16 (b : Byte) : Word := b.zeroExtend 16

/-- `sext_16(b)`: `b` if `b < 128`, else `b + $FF00` (30_encoding R104). -/
def sext16 (b : Byte) : Word := b.signExtend 16

/-- One row of the opcode table: mode, base cycles, whether a page crossing costs one more cycle, whether the
opcode is documented, and the instruction it stands for given its operand bytes. -/
structure OpRow where
  mode       : Mode
  cycles     : Nat
  penalty    : Bool
  documented : Bool
  make       : Byte → Byte → Instr

/-- Row `0x` of the opcode matrix (30_encoding R120). -/
def opcodeRow0 : Vector OpRow 16 := #v[
  ⟨.imp, 7, false, true, fun _ _ => .brk⟩,
  ⟨.indx, 6, false, true, fun b1 _ => .oraIndx b1⟩,
  ⟨.imp, 2, false, false, fun _ _ => .nopStarImp 0x02#8⟩,
  ⟨.indx, 6, false, false, fun b1 _ => .nopStarIndx 0x03#8 b1⟩,
  ⟨.zp, 3, false, false, fun b1 _ => .nopStarZp 0x04#8 b1⟩,
  ⟨.zp, 3, false, true, fun b1 _ => .oraZp b1⟩,
  ⟨.zp, 5, false, true, fun b1 _ => .aslZp b1⟩,
  ⟨.zp, 3, false, false, fun b1 _ => .nopStarZp 0x07#8 b1⟩,
  ⟨.imp, 3, false, true, fun _ _ => .php⟩,
  ⟨.imm, 2, false, true, fun b1 _ => .oraImm b1⟩,
  ⟨.acc, 2, false, true, fun _ _ => .aslAcc⟩,
  ⟨.imm, 2, false, false, fun b1 _ => .nopStarImm 0x0B#8 b1⟩,
  ⟨.abs, 4, false, false, fun b1 b2 => .nopStarAbs 0x0C#8 (joinBytes b2 b1)⟩,
  ⟨.abs, 4, false, true, fun b1 b2 => .oraAbs (joinBytes b2 b1)⟩,
  ⟨.abs, 6, false, true, fun b1 b2 => .aslAbs (joinBytes b2 b1)⟩,
  ⟨.abs, 4, false, false, fun b1 b2 => .nopStarAbs 0x0F#8 (joinBytes b2 b1)⟩]

/-- Row `1x` of the opcode matrix (30_encoding R120). -/
def opcodeRow1 : Vector OpRow 16 := #v[
  ⟨.rel, 2, false, true, fun b1 _ => .bpl b1⟩,
  ⟨.indy, 5, true, true, fun b1 _ => .oraIndy b1⟩,
  ⟨.imp, 2, false, false, fun _ _ => .nopStarImp 0x12#8⟩,
  ⟨.indy, 5, false, false, fun b1 _ => .nopStarIndy 0x13#8 b1⟩,
  ⟨.zpx, 4, false, false, fun b1 _ => .nopStarZpx 0x14#8 b1⟩,
  ⟨.zpx, 4, false, true, fun b1 _ => .oraZpx b1⟩,
  ⟨.zpx, 6, false, true, fun b1 _ => .aslZpx b1⟩,
  ⟨.zpx, 4, false, false, fun b1 _ => .nopStarZpx 0x17#8 b1⟩,
  ⟨.imp, 2, false, true, fun _ _ => .clc⟩,
  ⟨.absy, 4, true, true, fun b1 b2 => .oraAbsy (joinBytes b2 b1)⟩,
  ⟨.imp, 2, false, false, fun _ _ => .nopStarImp 0x1A#8⟩,
  ⟨.absy, 4, false, false, fun b1 b2 => .nopStarAbsy 0x1B#8 (joinBytes b2 b1)⟩,
  ⟨.absx, 4, false, false, fun b1 b2 => .nopStarAbsx 0x1C#8 (joinBytes b2 b1)⟩,
  ⟨.absx, 4, true, true, fun b1 b2 => .oraAbsx (joinBytes b2 b1)⟩,
  ⟨.absx, 7, false, true, fun b1 b2 => .aslAbsx (joinBytes b2 b1)⟩,
  ⟨.absx, 4, false, false, fun b1 b2 => .nopStarAbsx 0x1F#8 (joinBytes b2 b1)⟩]

/-- Row `2x` of the opcode matrix (30_encoding R120). -/
def opcodeRow2 : Vector OpRow 16 := #v[
  ⟨.abs, 6, false, true, fun b1 b2 => .jsr (joinBytes b2 b1)⟩,
  ⟨.indx, 6, false, true, fun b1 _ => .andIndx b1⟩,
  ⟨.imp, 2, false, false, fun _ _ => .nopStarImp 0x22#8⟩,
  ⟨.indx, 6, false, false, fun b1 _ => .nopStarIndx 0x23#8 b1⟩,
  ⟨.zp, 3, false, true, fun b1 _ => .bitZp b1⟩,
  ⟨.zp, 3, false, true, fun b1 _ => .andZp b1⟩,
  ⟨.zp, 5, false, true, fun b1 _ => .rolZp b1⟩,
  ⟨.zp, 3, false, false, fun b1 _ => .nopStarZp 0x27#8 b1⟩,
  ⟨.imp, 4, false, true, fun _ _ => .plp⟩,
  ⟨.imm, 2, false, true, fun b1 _ => .andImm b1⟩,
  ⟨.acc, 2, false, true, fun _ _ => .rolAcc⟩,
  ⟨.imm, 2, false, false, fun b1 _ => .nopStarImm 0x2B#8 b1⟩,
  ⟨.abs, 4, false, true, fun b1 b2 => .bitAbs (joinBytes b2 b1)⟩,
  ⟨.abs, 4, false, true, fun b1 b2 => .andAbs (joinBytes b2 b1)⟩,
  ⟨.abs, 6, false, true, fun b1 b2 => .rolAbs (joinBytes b2 b1)⟩,
  ⟨.abs, 4, false, false, fun b1 b2 => .nopStarAbs 0x2F#8 (joinBytes b2 b1)⟩]

/-- Row `3x` of the opcode matrix (30_encoding R120). -/
def opcodeRow3 : Vector OpRow 16 := #v[
  ⟨.rel, 2, false, true, fun b1 _ => .bmi b1⟩,
  ⟨.indy, 5, true, true, fun b1 _ => .andIndy b1⟩,
  ⟨.imp, 2, false, false, fun _ _ => .nopStarImp 0x32#8⟩,
  ⟨.indy, 5, false, false, fun b1 _ => .nopStarIndy 0x33#8 b1⟩,
  ⟨.zpx, 4, false, false, fun b1 _ => .nopStarZpx 0x34#8 b1⟩,
  ⟨.zpx, 4, false, true, fun b1 _ => .andZpx b1⟩,
  ⟨.zpx, 6, false, true, fun b1 _ => .rolZpx b1⟩,
  ⟨.zpx, 4, false, false, fun b1 _ => .nopStarZpx 0x37#8 b1⟩,
  ⟨.imp, 2, false, true, fun _ _ => .sec⟩,
  ⟨.absy, 4, true, true, fun b1 b2 => .andAbsy (joinBytes b2 b1)⟩,
  ⟨.imp, 2, false, false, fun _ _ => .nopStarImp 0x3A#8⟩,
  ⟨.absy, 4, false, false, fun b1 b2 => .nopStarAbsy 0x3B#8 (joinBytes b2 b1)⟩,
  ⟨.absx, 4, false, false, fun b1 b2 => .nopStarAbsx 0x3C#8 (joinBytes b2 b1)⟩,
  ⟨.absx, 4, true, true, fun b1 b2 => .andAbsx (joinBytes b2 b1)⟩,
  ⟨.absx, 7, false, true, fun b1 b2 => .rolAbsx (joinBytes b2 b1)⟩,
  ⟨.absx, 4, false, false, fun b1 b2 => .nopStarAbsx 0x3F#8 (joinBytes b2 b1)⟩]

/-- Row `4x` of the opcode matrix (30_encoding R120). -/
def opcodeRow4 : Vector OpRow 16 := #v[
  ⟨.imp, 6, false, true, fun _ _ => .rti⟩,
  ⟨.indx, 6, false, true, fun b1 _ => .eorIndx b1⟩,
  ⟨.imp, 2, false, false, fun _ _ => .nopStarImp 0x42#8⟩,
  ⟨.indx, 6, false, false, fun b1 _ => .nopStarIndx 0x43#8 b1⟩,
  ⟨.zp, 3, false, false, fun b1 _ => .nopStarZp 0x44#8 b1⟩,
  ⟨.zp, 3, false, true, fun b1 _ => .eorZp b1⟩,
  ⟨.zp, 5, false, true, fun b1 _ => .lsrZp b1⟩,
  ⟨.zp, 3, false, false, fun b1 _ => .nopStarZp 0x47#8 b1⟩,
  ⟨.imp, 3, false, true, fun _ _ => .pha⟩,
  ⟨.imm, 2, false, true, fun b1 _ => .eorImm b1⟩,
  ⟨.acc, 2, false, true, fun _ _ => .lsrAcc⟩,
  ⟨.imm, 2, false, false, fun b1 _ => .nopStarImm 0x4B#8 b1⟩,
  ⟨.abs, 3, false, true, fun b1 b2 => .jmpAbs (joinBytes b2 b1)⟩,
  ⟨.abs, 4, false, true, fun b1 b2 => .eorAbs (joinBytes b2 b1)⟩,
  ⟨.abs, 6, false, true, fun b1 b2 => .lsrAbs (joinBytes b2 b1)⟩,
  ⟨.abs, 4, false, false, fun b1 b2 => .nopStarAbs 0x4F#8 (joinBytes b2 b1)⟩]

/-- Row `5x` of the opcode matrix (30_encoding R120). -/
def opcodeRow5 : Vector OpRow 16 := #v[
  ⟨.rel, 2, false, true, fun b1 _ => .bvc b1⟩,
  ⟨.indy, 5, true, true, fun b1 _ => .eorIndy b1⟩,
  ⟨.imp, 2, false, false, fun _ _ => .nopStarImp 0x52#8⟩,
  ⟨.indy, 5, false, false, fun b1 _ => .nopStarIndy 0x53#8 b1⟩,
  ⟨.zpx, 4, false, false, fun b1 _ => .nopStarZpx 0x54#8 b1⟩,
  ⟨.zpx, 4, false, true, fun b1 _ => .eorZpx b1⟩,
  ⟨.zpx, 6, false, true, fun b1 _ => .lsrZpx b1⟩,
  ⟨.zpx, 4, false, false, fun b1 _ => .nopStarZpx 0x57#8 b1⟩,
  ⟨.imp, 2, false, true, fun _ _ => .cli⟩,
  ⟨.absy, 4, true, true, fun b1 b2 => .eorAbsy (joinBytes b2 b1)⟩,
  ⟨.imp, 2, false, false, fun _ _ => .nopStarImp 0x5A#8⟩,
  ⟨.absy, 4, false, false, fun b1 b2 => .nopStarAbsy 0x5B#8 (joinBytes b2 b1)⟩,
  ⟨.absx, 4, false, false, fun b1 b2 => .nopStarAbsx 0x5C#8 (joinBytes b2 b1)⟩,
  ⟨.absx, 4, true, true, fun b1 b2 => .eorAbsx (joinBytes b2 b1)⟩,
  ⟨.absx, 7, false, true, fun b1 b2 => .lsrAbsx (joinBytes b2 b1)⟩,
  ⟨.absx, 4, false, false, fun b1 b2 => .nopStarAbsx 0x5F#8 (joinBytes b2 b1)⟩]

/-- Row `6x` of the opcode matrix (30_encoding R120). -/
def opcodeRow6 : Vector OpRow 16 := #v[
  ⟨.imp, 6, false, true, fun _ _ => .rts⟩,
  ⟨.indx, 6, false, true, fun b1 _ => .adcIndx b1⟩,
  ⟨.imp, 2, false, false, fun _ _ => .nopStarImp 0x62#8⟩,
  ⟨.indx, 6, false, false, fun b1 _ => .nopStarIndx 0x63#8 b1⟩,
  ⟨.zp, 3, false, false, fun b1 _ => .nopStarZp 0x64#8 b1⟩,
  ⟨.zp, 3, false, true, fun b1 _ => .adcZp b1⟩,
  ⟨.zp, 5, false, true, fun b1 _ => .rorZp b1⟩,
  ⟨.zp, 3, false, false, fun b1 _ => .nopStarZp 0x67#8 b1⟩,
  ⟨.imp, 4, false, true, fun _ _ => .pla⟩,
  ⟨.imm, 2, false, true, fun b1 _ => .adcImm b1⟩,
  ⟨.acc, 2, false, true, fun _ _ => .rorAcc⟩,
  ⟨.imm, 2, false, false, fun b1 _ => .nopStarImm 0x6B#8 b1⟩,
  ⟨.ind, 5, false, true, fun b1 b2 => .jmpInd (joinBytes b2 b1)⟩,
  ⟨.abs, 4, false, true, fun b1 b2 => .adcAbs (joinBytes b2 b1)⟩,
  ⟨.abs, 6, false, true, fun b1 b2 => .rorAbs (joinBytes b2 b1)⟩,
  ⟨.abs, 4, false, false, fun b1 b2 => .nopStarAbs 0x6F#8 (joinBytes b2 b1)⟩]

/-- Row `7x` of the opcode matrix (30_encoding R120). -/
def opcodeRow7 : Vector OpRow 16 := #v[
  ⟨.rel, 2, false, true, fun b1 _ => .bvs b1⟩,
  ⟨.indy, 5, true, true, fun b1 _ => .adcIndy b1⟩,
  ⟨.imp, 2, false, false, fun _ _ => .nopStarImp 0x72#8⟩,
  ⟨.indy, 5, false, false, fun b1 _ => .nopStarIndy 0x73#8 b1⟩,
  ⟨.zpx, 4, false, false, fun b1 _ => .nopStarZpx 0x74#8 b1⟩,
  ⟨.zpx, 4, false, true, fun b1 _ => .adcZpx b1⟩,
  ⟨.zpx, 6, false, true, fun b1 _ => .rorZpx b1⟩,
  ⟨.zpx, 4, false, false, fun b1 _ => .nopStarZpx 0x77#8 b1⟩,
  ⟨.imp, 2, false, true, fun _ _ => .sei⟩,
  ⟨.absy, 4, true, true, fun b1 b2 => .adcAbsy (joinBytes b2 b1)⟩,
  ⟨.imp, 2, false, false, fun _ _ => .nopStarImp 0x7A#8⟩,
  ⟨.absy, 4, false, false, fun b1 b2 => .nopStarAbsy 0x7B#8 (joinBytes b2 b1)⟩,
  ⟨.absx, 4, false, false, fun b1 b2 => .nopStarAbsx 0x7C#8 (joinBytes b2 b1)⟩,
  ⟨.absx, 4, true, true, fun b1 b2 => .adcAbsx (joinBytes b2 b1)⟩,
  ⟨.absx, 7, false, true, fun b1 b2 => .rorAbsx (joinBytes b2 b1)⟩,
  ⟨.absx, 4, false, false, fun b1 b2 => .nopStarAbsx 0x7F#8 (joinBytes b2 b1)⟩]

/-- Row `8x` of the opcode matrix (30_encoding R120). -/
def opcodeRow8 : Vector OpRow 16 := #v[
  ⟨.imm, 2, false, false, fun b1 _ => .nopStarImm 0x80#8 b1⟩,
  ⟨.indx, 6, false, true, fun b1 _ => .staIndx b1⟩,
  ⟨.imm, 2, false, false, fun b1 _ => .nopStarImm 0x82#8 b1⟩,
  ⟨.indx, 6, false, false, fun b1 _ => .nopStarIndx 0x83#8 b1⟩,
  ⟨.zp, 3, false, true, fun b1 _ => .styZp b1⟩,
  ⟨.zp, 3, false, true, fun b1 _ => .staZp b1⟩,
  ⟨.zp, 3, false, true, fun b1 _ => .stxZp b1⟩,
  ⟨.zp, 3, false, false, fun b1 _ => .nopStarZp 0x87#8 b1⟩,
  ⟨.imp, 2, false, true, fun _ _ => .dey⟩,
  ⟨.imm, 2, false, false, fun b1 _ => .nopStarImm 0x89#8 b1⟩,
  ⟨.imp, 2, false, true, fun _ _ => .txa⟩,
  ⟨.imm, 2, false, false, fun b1 _ => .nopStarImm 0x8B#8 b1⟩,
  ⟨.abs, 4, false, true, fun b1 b2 => .styAbs (joinBytes b2 b1)⟩,
  ⟨.abs, 4, false, true, fun b1 b2 => .staAbs (joinBytes b2 b1)⟩,
  ⟨.abs, 4, false, true, fun b1 b2 => .stxAbs (joinBytes b2 b1)⟩,
  ⟨.abs, 4, false, false, fun b1 b2 => .nopStarAbs 0x8F#8 (joinBytes b2 b1)⟩]

/-- Row `9x` of the opcode matrix (30_encoding R120). -/
def opcodeRow9 : Vector OpRow 16 := #v[
  ⟨.rel, 2, false, true, fun b1 _ => .bcc b1⟩,
  ⟨.indy, 6, false, true, fun b1 _ => .staIndy b1⟩,
  ⟨.imp, 2, false, false, fun _ _ => .nopStarImp 0x92#8⟩,
  ⟨.indy, 5, false, false, fun b1 _ => .nopStarIndy 0x93#8 b1⟩,
  ⟨.zpx, 4, false, true, fun b1 _ => .styZpx b1⟩,
  ⟨.zpx, 4, false, true, fun b1 _ => .staZpx b1⟩,
  ⟨.zpy, 4, false, true, fun b1 _ => .stxZpy b1⟩,
  ⟨.zpy, 4, false, false, fun b1 _ => .nopStarZpy 0x97#8 b1⟩,
  ⟨.imp, 2, false, true, fun _ _ => .tya⟩,
  ⟨.absy, 5, false, true, fun b1 b2 => .staAbsy (joinBytes b2 b1)⟩,
  ⟨.imp, 2, false, true, fun _ _ => .txs⟩,
  ⟨.absy, 4, false, false, fun b1 b2 => .nopStarAbsy 0x9B#8 (joinBytes b2 b1)⟩,
  ⟨.absx, 4, false, false, fun b1 b2 => .nopStarAbsx 0x9C#8 (joinBytes b2 b1)⟩,
  ⟨.absx, 5, false, true, fun b1 b2 => .staAbsx (joinBytes b2 b1)⟩,
  ⟨.absy, 4, false, false, fun b1 b2 => .nopStarAbsy 0x9E#8 (joinBytes b2 b1)⟩,
  ⟨.absy, 4, false, false, fun b1 b2 => .nopStarAbsy 0x9F#8 (joinBytes b2 b1)⟩]

/-- Row `Ax` of the opcode matrix (30_encoding R120). -/
def opcodeRowA : Vector OpRow 16 := #v[
  ⟨.imm, 2, false, true, fun b1 _ => .ldyImm b1⟩,
  ⟨.indx, 6, false, true, fun b1 _ => .ldaIndx b1⟩,
  ⟨.imm, 2, false, true, fun b1 _ => .ldxImm b1⟩,
  ⟨.indx, 6, false, false, fun b1 _ => .nopStarIndx 0xA3#8 b1⟩,
  ⟨.zp, 3, false, true, fun b1 _ => .ldyZp b1⟩,
  ⟨.zp, 3, false, true, fun b1 _ => .ldaZp b1⟩,
  ⟨.zp, 3, false, true, fun b1 _ => .ldxZp b1⟩,
  ⟨.zp, 3, false, false, fun b1 _ => .nopStarZp 0xA7#8 b1⟩,
  ⟨.imp, 2, false, true, fun _ _ => .tay⟩,
  ⟨.imm, 2, false, true, fun b1 _ => .ldaImm b1⟩,
  ⟨.imp, 2, false, true, fun _ _ => .tax⟩,
  ⟨.imm, 2, false, false, fun b1 _ => .nopStarImm 0xAB#8 b1⟩,
  ⟨.abs, 4, false, true, fun b1 b2 => .ldyAbs (joinBytes b2 b1)⟩,
  ⟨.abs, 4, false, true, fun b1 b2 => .ldaAbs (joinBytes b2 b1)⟩,
  ⟨.abs, 4, false, true, fun b1 b2 => .ldxAbs (joinBytes b2 b1)⟩,
  ⟨.abs, 4, false, false, fun b1 b2 => .nopStarAbs 0xAF#8 (joinBytes b2 b1)⟩]

/-- Row `Bx` of the opcode matrix (30_encoding R120). -/
def opcodeRowB : Vector OpRow 16 := #v[
  ⟨.rel, 2, false, true, fun b1 _ => .bcs b1⟩,
  ⟨.indy, 5, true, true, fun b1 _ => .ldaIndy b1⟩,
  ⟨.imp, 2, false, false, fun _ _ => .nopStarImp 0xB2#8⟩,
  ⟨.indy, 5, false, false, fun b1 _ => .nopStarIndy 0xB3#8 b1⟩,
  ⟨.zpx, 4, false, true, fun b1 _ => .ldyZpx b1⟩,
  ⟨.zpx, 4, false, true, fun b1 _ => .ldaZpx b1⟩,
  ⟨.zpy, 4, false, true, fun b1 _ => .ldxZpy b1⟩,
  ⟨.zpy, 4, false, false, fun b1 _ => .nopStarZpy 0xB7#8 b1⟩,
  ⟨.imp, 2, false, true, fun _ _ => .clv⟩,
  ⟨.absy, 4, true, true, fun b1 b2 => .ldaAbsy (joinBytes b2 b1)⟩,
  ⟨.imp, 2, false, true, fun _ _ => .tsx⟩,
  ⟨.absy, 4, false, false, fun b1 b2 => .nopStarAbsy 0xBB#8 (joinBytes b2 b1)⟩,
  ⟨.absx, 4, true, true, fun b1 b2 => .ldyAbsx (joinBytes b2 b1)⟩,
  ⟨.absx, 4, true, true, fun b1 b2 => .ldaAbsx (joinBytes b2 b1)⟩,
  ⟨.absy, 4, true, true, fun b1 b2 => .ldxAbsy (joinBytes b2 b1)⟩,
  ⟨.absy, 4, false, false, fun b1 b2 => .nopStarAbsy 0xBF#8 (joinBytes b2 b1)⟩]

/-- Row `Cx` of the opcode matrix (30_encoding R120). -/
def opcodeRowC : Vector OpRow 16 := #v[
  ⟨.imm, 2, false, true, fun b1 _ => .cpyImm b1⟩,
  ⟨.indx, 6, false, true, fun b1 _ => .cmpIndx b1⟩,
  ⟨.imm, 2, false, false, fun b1 _ => .nopStarImm 0xC2#8 b1⟩,
  ⟨.indx, 6, false, false, fun b1 _ => .nopStarIndx 0xC3#8 b1⟩,
  ⟨.zp, 3, false, true, fun b1 _ => .cpyZp b1⟩,
  ⟨.zp, 3, false, true, fun b1 _ => .cmpZp b1⟩,
  ⟨.zp, 5, false, true, fun b1 _ => .decZp b1⟩,
  ⟨.zp, 3, false, false, fun b1 _ => .nopStarZp 0xC7#8 b1⟩,
  ⟨.imp, 2, false, true, fun _ _ => .iny⟩,
  ⟨.imm, 2, false, true, fun b1 _ => .cmpImm b1⟩,
  ⟨.imp, 2, false, true, fun _ _ => .dex⟩,
  ⟨.imm, 2, false, false, fun b1 _ => .nopStarImm 0xCB#8 b1⟩,
  ⟨.abs, 4, false, true, fun b1 b2 => .cpyAbs (joinBytes b2 b1)⟩,
  ⟨.abs, 4, false, true, fun b1 b2 => .cmpAbs (joinBytes b2 b1)⟩,
  ⟨.abs, 6, false, true, fun b1 b2 => .decAbs (joinBytes b2 b1)⟩,
  ⟨.abs, 4, false, false, fun b1 b2 => .nopStarAbs 0xCF#8 (joinBytes b2 b1)⟩]

/-- Row `Dx` of the opcode matrix (30_encoding R120). -/
def opcodeRowD : Vector OpRow 16 := #v[
  ⟨.rel, 2, false, true, fun b1 _ => .bne b1⟩,
  ⟨.indy, 5, true, true, fun b1 _ => .cmpIndy b1⟩,
  ⟨.imp, 2, false, false, fun _ _ => .nopStarImp 0xD2#8⟩,
  ⟨.indy, 5, false, false, fun b1 _ => .nopStarIndy 0xD3#8 b1⟩,
  ⟨.zpx, 4, false, false, fun b1 _ => .nopStarZpx 0xD4#8 b1⟩,
  ⟨.zpx, 4, false, true, fun b1 _ => .cmpZpx b1⟩,
  ⟨.zpx, 6, false, true, fun b1 _ => .decZpx b1⟩,
  ⟨.zpx, 4, false, false, fun b1 _ => .nopStarZpx 0xD7#8 b1⟩,
  ⟨.imp, 2, false, true, fun _ _ => .cld⟩,
  ⟨.absy, 4, true, true, fun b1 b2 => .cmpAbsy (joinBytes b2 b1)⟩,
  ⟨.imp, 2, false, false, fun _ _ => .nopStarImp 0xDA#8⟩,
  ⟨.absy, 4, false, false, fun b1 b2 => .nopStarAbsy 0xDB#8 (joinBytes b2 b1)⟩,
  ⟨.absx, 4, false, false, fun b1 b2 => .nopStarAbsx 0xDC#8 (joinBytes b2 b1)⟩,
  ⟨.absx, 4, true, true, fun b1 b2 => .cmpAbsx (joinBytes b2 b1)⟩,
  ⟨.absx, 7, false, true, fun b1 b2 => .decAbsx (joinBytes b2 b1)⟩,
  ⟨.absx, 4, false, false, fun b1 b2 => .nopStarAbsx 0xDF#8 (joinBytes b2 b1)⟩]

/-- Row `Ex` of the opcode matrix (30_encoding R120). -/
def opcodeRowE : Vector OpRow 16 := #v[
  ⟨.imm, 2, false, true, fun b1 _ => .cpxImm b1⟩,
  ⟨.indx, 6, false, true, fun b1 _ => .sbcIndx b1⟩,
  ⟨.imm, 2, false, false, fun b1 _ => .nopStarImm 0xE2#8 b1⟩,
  ⟨.indx, 6, false, false, fun b1 _ => .nopStarIndx 0xE3#8 b1⟩,
  ⟨.zp, 3, false, true, fun b1 _ => .cpxZp b1⟩,
  ⟨.zp, 3, false, true, fun b1 _ => .sbcZp b1⟩,
  ⟨.zp, 5, false, true, fun b1 _ => .incZp b1⟩,
  ⟨.zp, 3, false, false, fun b1 _ => .nopStarZp 0xE7#8 b1⟩,
  ⟨.imp, 2, false, true, fun _ _ => .inx⟩,
  ⟨.imm, 2, false, true, fun b1 _ => .sbcImm b1⟩,
  ⟨.imp, 2, false, true, fun _ _ => .nop⟩,
  ⟨.imm, 2, false, false, fun b1 _ => .nopStarImm 0xEB#8 b1⟩,
  ⟨.abs, 4, false, true, fun b1 b2 => .cpxAbs (joinBytes b2 b1)⟩,
  ⟨.abs, 4, false, true, fun b1 b2 => .sbcAbs (joinBytes b2 b1)⟩,
  ⟨.abs, 6, false, true, fun b1 b2 => .incAbs (joinBytes b2 b1)⟩,
  ⟨.abs, 4, false, false, fun b1 b2 => .nopStarAbs 0xEF#8 (joinBytes b2 b1)⟩]

/-- Row `Fx` of the opcode matrix (30_encoding R120). -/
def opcodeRowF : Vector OpRow 16 := #v[
  ⟨.rel, 2, false, true, fun b1 _ => .beq b1⟩,
  ⟨.indy, 5, true, true, fun b1 _ => .sbcIndy b1⟩,
  ⟨.imp, 2, false, false, fun _ _ => .nopStarImp 0xF2#8⟩,
  ⟨.indy, 5, false, false, fun b1 _ => .nopStarIndy 0xF3#8 b1⟩,
  ⟨.zpx, 4, false, false, fun b1 _ => .nopStarZpx 0xF4#8 b1⟩,
  ⟨.zpx, 4, false, true, fun b1 _ => .sbcZpx b1⟩,
  ⟨.zpx, 6, false, true, fun b1 _ => .incZpx b1⟩,
  ⟨.zpx, 4, false, false, fun b1 _ => .nopStarZpx 0xF7#8 b1⟩,
  ⟨.imp, 2, false, true, fun _ _ => .sed⟩,
  ⟨.absy, 4, true, true, fun b1 b2 => .sbcAbsy (joinBytes b2 b1)⟩,
  ⟨.imp, 2, false, false, fun _ _ => .nopStarImp 0xFA#8⟩,
  ⟨.absy, 4, false, false, fun b1 b2 => .nopStarAbsy 0xFB#8 (joinBytes b2 b1)⟩,
  ⟨.absx, 4, false, false, fun b1 b2 => .nopStarAbsx 0xFC#8 (joinBytes b2 b1)⟩,
  ⟨.absx, 4, true, true, fun b1 b2 => .sbcAbsx (joinBytes b2 b1)⟩,
  ⟨.absx, 7, false, true, fun b1 b2 => .incAbsx (joinBytes b2 b1)⟩,
  ⟨.absx, 4, false, false, fun b1 b2 => .nopStarAbsx 0xFF#8 (joinBytes b2 b1)⟩]

/-- The whole opcode matrix, high nibble first (30_encoding R120). -/
def opcodeMatrix : Vector (Vector OpRow 16) 16 := #v[
  opcodeRow0, opcodeRow1, opcodeRow2, opcodeRow3, opcodeRow4, opcodeRow5, opcodeRow6, opcodeRow7,
  opcodeRow8, opcodeRow9, opcodeRowA, opcodeRowB, opcodeRowC, opcodeRowD, opcodeRowE, opcodeRowF]

/-- The row of an opcode byte: every one of the 256 values has one (30_encoding R102). -/
def opRow (op : Byte) : OpRow :=
  (opcodeMatrix.get (op.extractLsb' 4 4).toFin).get (op.extractLsb' 0 4).toFin

/-- The length of the instruction an opcode byte begins, 1, 2 or 3 (30_encoding R100, R103). -/
def opLength (op : Byte) : Nat := (opRow op).mode.length

/-- Why a list of bytes holds no whole instruction. No opcode byte is refused: only missing bytes are. -/
inductive DecodeError where
  /-- There is no byte at all. -/
  | noOpcode
  /-- The opcode needs more operand bytes than there are. -/
  | missingOperand (op : Byte)
  deriving DecidableEq, Repr

/-- The instruction of an opcode byte and its operand bytes; operand bytes a shorter format lacks are ignored. -/
def buildInstr (op b1 b2 : Byte) : Instr := (opRow op).make b1 b2

/-- Decode the instruction at the front of a list of bytes and give back the rest (30_encoding R100, R102). -/
def decode : List Byte → Except DecodeError (Instr × List Byte)
  | [] => .error .noOpcode
  | op :: rest =>
    match opLength op, rest with
    | 1, rest           => .ok (buildInstr op 0 0, rest)
    | 2, b1 :: rest       => .ok (buildInstr op b1 0, rest)
    | 3, b1 :: b2 :: rest => .ok (buildInstr op b1 b2, rest)
    | _, _              => .error (.missingOperand op)

/-- The bytes of an instruction in ascending addresses: opcode, operand low byte, operand high byte (30_encoding R101). -/
def encode : Instr → List Byte
  | .brk => [0x00#8]
  | .oraIndx b1 => [0x01#8, b1]
  | .nopStarImp op => [op]
  | .nopStarIndx op b1 => [op, b1]
  | .nopStarZp op b1 => [op, b1]
  | .oraZp b1 => [0x05#8, b1]
  | .aslZp b1 => [0x06#8, b1]
  | .php => [0x08#8]
  | .oraImm b1 => [0x09#8, b1]
  | .aslAcc => [0x0A#8]
  | .nopStarImm op b1 => [op, b1]
  | .nopStarAbs op w => [op, loByte w, hiByte w]
  | .oraAbs w => [0x0D#8, loByte w, hiByte w]
  | .aslAbs w => [0x0E#8, loByte w, hiByte w]
  | .bpl b1 => [0x10#8, b1]
  | .oraIndy b1 => [0x11#8, b1]
  | .nopStarIndy op b1 => [op, b1]
  | .nopStarZpx op b1 => [op, b1]
  | .oraZpx b1 => [0x15#8, b1]
  | .aslZpx b1 => [0x16#8, b1]
  | .clc => [0x18#8]
  | .oraAbsy w => [0x19#8, loByte w, hiByte w]
  | .nopStarAbsy op w => [op, loByte w, hiByte w]
  | .nopStarAbsx op w => [op, loByte w, hiByte w]
  | .oraAbsx w => [0x1D#8, loByte w, hiByte w]
  | .aslAbsx w => [0x1E#8, loByte w, hiByte w]
  | .jsr w => [0x20#8, loByte w, hiByte w]
  | .andIndx b1 => [0x21#8, b1]
  | .bitZp b1 => [0x24#8, b1]
  | .andZp b1 => [0x25#8, b1]
  | .rolZp b1 => [0x26#8, b1]
  | .plp => [0x28#8]
  | .andImm b1 => [0x29#8, b1]
  | .rolAcc => [0x2A#8]
  | .bitAbs w => [0x2C#8, loByte w, hiByte w]
  | .andAbs w => [0x2D#8, loByte w, hiByte w]
  | .rolAbs w => [0x2E#8, loByte w, hiByte w]
  | .bmi b1 => [0x30#8, b1]
  | .andIndy b1 => [0x31#8, b1]
  | .andZpx b1 => [0x35#8, b1]
  | .rolZpx b1 => [0x36#8, b1]
  | .sec => [0x38#8]
  | .andAbsy w => [0x39#8, loByte w, hiByte w]
  | .andAbsx w => [0x3D#8, loByte w, hiByte w]
  | .rolAbsx w => [0x3E#8, loByte w, hiByte w]
  | .rti => [0x40#8]
  | .eorIndx b1 => [0x41#8, b1]
  | .eorZp b1 => [0x45#8, b1]
  | .lsrZp b1 => [0x46#8, b1]
  | .pha => [0x48#8]
  | .eorImm b1 => [0x49#8, b1]
  | .lsrAcc => [0x4A#8]
  | .jmpAbs w => [0x4C#8, loByte w, hiByte w]
  | .eorAbs w => [0x4D#8, loByte w, hiByte w]
  | .lsrAbs w => [0x4E#8, loByte w, hiByte w]
  | .bvc b1 => [0x50#8, b1]
  | .eorIndy b1 => [0x51#8, b1]
  | .eorZpx b1 => [0x55#8, b1]
  | .lsrZpx b1 => [0x56#8, b1]
  | .cli => [0x58#8]
  | .eorAbsy w => [0x59#8, loByte w, hiByte w]
  | .eorAbsx w => [0x5D#8, loByte w, hiByte w]
  | .lsrAbsx w => [0x5E#8, loByte w, hiByte w]
  | .rts => [0x60#8]
  | .adcIndx b1 => [0x61#8, b1]
  | .adcZp b1 => [0x65#8, b1]
  | .rorZp b1 => [0x66#8, b1]
  | .pla => [0x68#8]
  | .adcImm b1 => [0x69#8, b1]
  | .rorAcc => [0x6A#8]
  | .jmpInd w => [0x6C#8, loByte w, hiByte w]
  | .adcAbs w => [0x6D#8, loByte w, hiByte w]
  | .rorAbs w => [0x6E#8, loByte w, hiByte w]
  | .bvs b1 => [0x70#8, b1]
  | .adcIndy b1 => [0x71#8, b1]
  | .adcZpx b1 => [0x75#8, b1]
  | .rorZpx b1 => [0x76#8, b1]
  | .sei => [0x78#8]
  | .adcAbsy w => [0x79#8, loByte w, hiByte w]
  | .adcAbsx w => [0x7D#8, loByte w, hiByte w]
  | .rorAbsx w => [0x7E#8, loByte w, hiByte w]
  | .staIndx b1 => [0x81#8, b1]
  | .styZp b1 => [0x84#8, b1]
  | .staZp b1 => [0x85#8, b1]
  | .stxZp b1 => [0x86#8, b1]
  | .dey => [0x88#8]
  | .txa => [0x8A#8]
  | .styAbs w => [0x8C#8, loByte w, hiByte w]
  | .staAbs w => [0x8D#8, loByte w, hiByte w]
  | .stxAbs w => [0x8E#8, loByte w, hiByte w]
  | .bcc b1 => [0x90#8, b1]
  | .staIndy b1 => [0x91#8, b1]
  | .styZpx b1 => [0x94#8, b1]
  | .staZpx b1 => [0x95#8, b1]
  | .stxZpy b1 => [0x96#8, b1]
  | .nopStarZpy op b1 => [op, b1]
  | .tya => [0x98#8]
  | .staAbsy w => [0x99#8, loByte w, hiByte w]
  | .txs => [0x9A#8]
  | .staAbsx w => [0x9D#8, loByte w, hiByte w]
  | .ldyImm b1 => [0xA0#8, b1]
  | .ldaIndx b1 => [0xA1#8, b1]
  | .ldxImm b1 => [0xA2#8, b1]
  | .ldyZp b1 => [0xA4#8, b1]
  | .ldaZp b1 => [0xA5#8, b1]
  | .ldxZp b1 => [0xA6#8, b1]
  | .tay => [0xA8#8]
  | .ldaImm b1 => [0xA9#8, b1]
  | .tax => [0xAA#8]
  | .ldyAbs w => [0xAC#8, loByte w, hiByte w]
  | .ldaAbs w => [0xAD#8, loByte w, hiByte w]
  | .ldxAbs w => [0xAE#8, loByte w, hiByte w]
  | .bcs b1 => [0xB0#8, b1]
  | .ldaIndy b1 => [0xB1#8, b1]
  | .ldyZpx b1 => [0xB4#8, b1]
  | .ldaZpx b1 => [0xB5#8, b1]
  | .ldxZpy b1 => [0xB6#8, b1]
  | .clv => [0xB8#8]
  | .ldaAbsy w => [0xB9#8, loByte w, hiByte w]
  | .tsx => [0xBA#8]
  | .ldyAbsx w => [0xBC#8, loByte w, hiByte w]
  | .ldaAbsx w => [0xBD#8, loByte w, hiByte w]
  | .ldxAbsy w => [0xBE#8, loByte w, hiByte w]
  | .cpyImm b1 => [0xC0#8, b1]
  | .cmpIndx b1 => [0xC1#8, b1]
  | .cpyZp b1 => [0xC4#8, b1]
  | .cmpZp b1 => [0xC5#8, b1]
  | .decZp b1 => [0xC6#8, b1]
  | .iny => [0xC8#8]
  | .cmpImm b1 => [0xC9#8, b1]
  | .dex => [0xCA#8]
  | .cpyAbs w => [0xCC#8, loByte w, hiByte w]
  | .cmpAbs w => [0xCD#8, loByte w, hiByte w]
  | .decAbs w => [0xCE#8, loByte w, hiByte w]
  | .bne b1 => [0xD0#8, b1]
  | .cmpIndy b1 => [0xD1#8, b1]
  | .cmpZpx b1 => [0xD5#8, b1]
  | .decZpx b1 => [0xD6#8, b1]
  | .cld => [0xD8#8]
  | .cmpAbsy w => [0xD9#8, loByte w, hiByte w]
  | .cmpAbsx w => [0xDD#8, loByte w, hiByte w]
  | .decAbsx w => [0xDE#8, loByte w, hiByte w]
  | .cpxImm b1 => [0xE0#8, b1]
  | .sbcIndx b1 => [0xE1#8, b1]
  | .cpxZp b1 => [0xE4#8, b1]
  | .sbcZp b1 => [0xE5#8, b1]
  | .incZp b1 => [0xE6#8, b1]
  | .inx => [0xE8#8]
  | .sbcImm b1 => [0xE9#8, b1]
  | .nop => [0xEA#8]
  | .cpxAbs w => [0xEC#8, loByte w, hiByte w]
  | .sbcAbs w => [0xED#8, loByte w, hiByte w]
  | .incAbs w => [0xEE#8, loByte w, hiByte w]
  | .beq b1 => [0xF0#8, b1]
  | .sbcIndy b1 => [0xF1#8, b1]
  | .sbcZpx b1 => [0xF5#8, b1]
  | .incZpx b1 => [0xF6#8, b1]
  | .sed => [0xF8#8]
  | .sbcAbsy w => [0xF9#8, loByte w, hiByte w]
  | .sbcAbsx w => [0xFD#8, loByte w, hiByte w]
  | .incAbsx w => [0xFE#8, loByte w, hiByte w]

/-- The opcode byte of an instruction. -/
def Instr.opcode (i : Instr) : Byte := (encode i).headD 0

/-- The opcode table row of an instruction. -/
def Instr.row (i : Instr) : OpRow := opRow i.opcode

/-- The length of an instruction in bytes, by its addressing mode (30_encoding R103). -/
def Instr.length (i : Instr) : Nat := i.row.mode.length

/-- Byte number `k` of a number read with bit 0 as the least significant bit of byte 0. -/
def byteOf (w k : Nat) : Byte := BitVec.ofNat 8 (w >>> (8 * k))

/-- The three bytes an opcode-table word stands for, the bits from `nbits` on being zero. -/
def tableBytes (nbits w : Nat) : List Byte :=
  let v := w % 2 ^ nbits
  [byteOf v 0, byteOf v 1, byteOf v 2]

/-- The instruction the decoder reads from an opcode-table word. -/
def decodeTableWord (nbits w : Nat) : Option Instr :=
  match decode (tableBytes nbits w) with
  | .ok (i, _) => some i
  | .error _   => none

end Sys2Proof
end

