-- ==== Sys2Proof/Config.lean ====
section
/-! DEFINITION. What an implementation fixes: the ROM image and the named parameters of 00_scope R7, as plain
data, and the free values, as constants without a body (20_memory R73; 50_ppu R339; 53_orchestrator R502). -/

namespace Sys2Proof

/-- The three mapper variants a machine can be bound to (52_mappers R421, R465). -/
inductive MapperId where
  | nrom
  | mmc1
  | mmc3
  deriving DecidableEq, Repr

/-- The five nametable mirroring modes (50_ppu R300, R313). -/
inductive Mirroring where
  | horizontal
  | vertical
  | singleLower
  | singleUpper
  | fourScreen
  deriving DecidableEq, Repr

/-- The bound ROM image: `MAPPER_ID`, `PRG`, `CHR`, `MIRRORING`, `BATTERY` (00_scope R7; 10_state R21).
`prgLen` and `chrLen` are lengths in bytes; a `chrLen` of 0 means 8 KB of pattern RAM. -/
structure RomImage where
  mapperId  : MapperId
  prgLen    : Nat
  prg       : Memory
  chrLen    : Nat
  chr       : Memory
  mirroring : Mirroring
  battery   : Bool
  deriving DecidableEq, Repr

/-- The mapper id a cartridge-file parser classified: one of the three, or another (53_orchestrator R473, R508). -/
inductive MapperTag where
  | known (id : MapperId)
  | other (n : Nat)
  deriving DecidableEq, Repr

/-- What `loadROM` is given: the five classified values (53_orchestrator R473, R508). -/
structure RomFile where
  tag       : MapperTag
  prg       : List Byte
  chr       : List Byte
  mirroring : Mirroring
  battery   : Bool
  deriving DecidableEq, Repr

/-- `ILLEGAL_POLICY`: what the 105 undocumented opcodes do (30_encoding R122). -/
inductive IllegalPolicy where
  | nop
  | refuse
  deriving DecidableEq, Repr

/-- `MASKED_IRQ_POLICY`: the fate of an IRQ request sampled while I = 1 (60_exceptions R254). -/
inductive MaskedIrqPolicy where
  | hold
  | drop
  deriving DecidableEq, Repr

/-- `EMPHASIS`: the identity, or the host's own function (50_ppu R339; log 6). -/
inductive Emphasis where
  | identity
  | host
  deriving DecidableEq, Repr

/-- Which cell of pattern RAM a PPU address reaches when `CHR` is empty. The spec gives both and settles neither, so the model
leaves it open as a parameter of its own (log 24). -/
inductive PatternRamIndex where
  /-- `chrRam[chrMap(a)]` (52_mappers R423; 50_ppu R316). -/
  | windowed
  /-- `chrRam[a]` (the cells of 50_ppu R311). -/
  | direct
  deriving DecidableEq, Repr

/-- The named parameters of 00_scope R7 that are plain data, and `patternRam`, the model's own (log 24). The machine holds them as a constant part
of its state, so a statement about every state holds for every value of them (log 11). -/
structure Config where
  resetA            : Byte
  resetX            : Byte
  resetY            : Byte
  resetS            : Byte
  resetP            : Byte
  ramInit           : Memory
  prgRamInit        : Memory
  illegalPolicy     : IllegalPolicy
  maskedIrqPolicy   : MaskedIrqPolicy
  stallChunk        : Nat
  oamDmaStall       : Nat
  scanlinesPerFrame : Nat
  nmiDelayDots      : Nat
  oddFrameSkip      : Bool
  emphasis          : Emphasis
  cpuHz             : Nat
  sampleRate        : Nat
  frameSeqPeriod    : Nat
  patternRam        : PatternRamIndex
  deriving DecidableEq, Repr

/-- The defaults of 00_scope R7. DESIGN CHOICE (log 2, log 3) for the seven OPEN ones: the spec's recommended values;
and for `patternRam` (log 24): the text of 52_mappers R423. -/
def Config.default : Config where
  resetA            := 0x00#8
  resetX            := 0x00#8
  resetY            := 0x00#8
  resetS            := 0xFD#8
  resetP            := 0x24#8
  ramInit           := []
  prgRamInit        := []
  illegalPolicy     := .nop
  maskedIrqPolicy   := .hold
  stallChunk        := 8
  oamDmaStall       := 513
  scanlinesPerFrame := 262
  nmiDelayDots      := 9
  oddFrameSkip      := false
  emphasis          := .identity
  cpuHz             := 1789773
  sampleRate        := 44100
  frameSeqPeriod    := 7457
  patternRam        := .windowed

/-- The blank cartridge of `State.reset`. DESIGN CHOICE (log 1): NROM, 32 KB of zero bytes, 8 KB of zero CHR. -/
def RomImage.blank : RomImage where
  mapperId  := .nrom
  prgLen    := 32768
  prg       := []
  chrLen    := 8192
  chr       := []
  mirroring := .horizontal
  battery   := false

/-- `OPEN_BUS`: the byte the n-th open-bus draw gives, under no law (20_memory R73; log 4). -/
opaque Config.openBus : Nat → Byte

/-- `PALETTE_RGB`: the 24 colour bits of a 6-bit palette value; the alpha byte is opaque (50_ppu R339; log 5). -/
opaque Config.paletteRgb : BitVec 6 → BitVec 24

/-- `EMPHASIS` when it is the host's own function of a colour word and three bits: the 24 colour bits of its result; the alpha
byte stays opaque (50_ppu R339, R350; 53_orchestrator R503; log 6). -/
opaque Config.hostEmphasis : Colour → BitVec 3 → BitVec 24

/-- `LIGHT`: whether the gun sees light at (x, y), at the n-th draw (53_orchestrator R502; log 7). -/
opaque Config.light : Nat → Nat → Nat → Bool

end Sys2Proof
end

