-- ==== Sys2Proof/Machine/State.lean ====
section
/-! DEFINITION. The state of the whole machine as plain data (10_state R20 to R37), the reasons a step can stop, and
the state right after reset (70_reset_and_hazards R520, R521). INVENTORY.md lists every field with its rule. -/

namespace Sys2Proof.Machine

/-- The six stored flags of the status register P (10_state R27). Bits 5 and 4 are not stored. -/
structure Flags where
  n : Bool
  v : Bool
  d : Bool
  i : Bool
  z : Bool
  c : Bool
  deriving DecidableEq, Repr

/-- The PPU (50_ppu R300). `vblank`, `spr0Hit`, `sprOverflow` are `status[7]`, `status[6]`, `status[5]`. -/
structure Ppu where
  scanline         : Nat
  curX             : Nat
  oddFrame         : Bool
  ctrl             : Byte
  mask             : Byte
  vblank           : Bool
  spr0Hit          : Bool
  sprOverflow      : Bool
  oamAddr          : Byte
  v                : BitVec 15
  t                : BitVec 15
  fineX            : BitVec 3
  w                : Bool
  readBuffer       : Byte
  oam              : Memory
  nametableRam     : Memory
  paletteRam       : Store 6
  mirroring        : Mirroring
  spr0HitX         : Option Nat
  spr0HitY         : Option Nat
  requestEndFrame  : Bool
  nmiCounter       : Nat
  /-- The rows of the frame buffer rendered since reset, by row number; any other row is all `$FF000000` (log 16). -/
  frameRows        : List (Nat × List Colour)
  lastRenderedLine : Int
  deriving DecidableEq, Repr

/-- An envelope unit, shared by the pulse and noise channels (51_apu R394). -/
structure Envelope where
  halt       : Bool
  constVol   : Bool
  volParam   : BitVec 4
  envStart   : Bool
  envDivider : Nat
  envDecay   : Nat
  deriving DecidableEq, Repr

/-- A pulse channel (51_apu R360). -/
structure Pulse where
  enabled      : Bool
  duty         : BitVec 2
  env          : Envelope
  sweepEnable  : Bool
  sweepPeriod  : BitVec 3
  sweepNegate  : Bool
  sweepShift   : BitVec 3
  sweepReload  : Bool
  sweepDivider : Nat
  timerPeriod  : BitVec 11
  timer        : Nat
  seqPos       : Nat
  length       : Nat
  deriving DecidableEq, Repr

/-- The triangle channel (51_apu R360). -/
structure Triangle where
  enabled           : Bool
  control           : Bool
  linearReloadValue : BitVec 7
  linearCounter     : Nat
  linearReloadFlag  : Bool
  timerPeriod       : BitVec 11
  timer             : Nat
  seqPos            : Nat
  length            : Nat
  deriving DecidableEq, Repr

/-- The noise channel (51_apu R360). -/
structure Noise where
  enabled     : Bool
  env         : Envelope
  mode        : Bool
  periodIndex : BitVec 4
  timer       : Nat
  shift       : BitVec 15
  length      : Nat
  deriving DecidableEq, Repr

/-- The delta-modulation channel (51_apu R360). -/
structure Dmc where
  irqEnable        : Bool
  loop             : Bool
  rateIndex        : BitVec 4
  timer            : Nat
  level            : BitVec 7
  sampleAddrReg    : Byte
  sampleLenReg     : Byte
  curAddr          : Word
  bytesRemaining   : Nat
  sampleBuffer     : Byte
  sampleBufferFull : Bool
  shiftReg         : Byte
  bitsRemaining    : Nat
  silence          : Bool
  dmcIrqFlag       : Bool
  deriving DecidableEq, Repr

/-- The APU: frame sequencer, five channels, sample pacer (51_apu R360). `seqMode` true is five-step. -/
structure Apu where
  seqMode      : Bool
  seqStep      : Nat
  seqCycles    : Nat
  irqInhibit   : Bool
  frameIrqFlag : Bool
  pulse1       : Pulse
  pulse2       : Pulse
  triangle     : Triangle
  noise        : Noise
  dmc          : Dmc
  sampleAcc    : Nat
  deriving DecidableEq, Repr

/-- MMC1 registers (52_mappers R430). `controlLoaded` remembers whether a program has loaded the control register
since reset, which R431 makes the mirroring depend on (log 14). -/
structure Mmc1 where
  shiftReg      : BitVec 5
  shiftCount    : Nat
  control       : BitVec 5
  chrBank0      : BitVec 5
  chrBank1      : BitVec 5
  prgBank       : BitVec 5
  controlLoaded : Bool
  deriving DecidableEq, Repr

/-- MMC3 registers (52_mappers R445). -/
structure Mmc3 where
  bankSelect    : Byte
  banks         : Vector Byte 8
  prgRamProtect : Byte
  irqLatchValue : Byte
  irqCounter    : Byte
  irqReload     : Bool
  irqEnable     : Bool
  deriving DecidableEq, Repr

/-- The variant block of the mapper, fixed at load (52_mappers R421). NROM has no state (R425). -/
inductive MapperRegs where
  | nrom
  | mmc1 (r : Mmc1)
  | mmc3 (r : Mmc3)
  deriving DecidableEq, Repr

/-- The mapper: base block and variant block (52_mappers R420). -/
structure Mapper where
  prgRam : Memory
  chrRam : Memory
  prgWin : Vector Nat 4
  chrWin : Vector Nat 8
  regs   : MapperRegs
  deriving DecidableEq, Repr

/-- The orchestrator's states (53_orchestrator R470). `paused` remembers whether it left `midFrameBreak` (R472). -/
inductive RunState where
  | unloaded
  | running
  | paused (atBreak : Bool)
  | midFrameBreak
  deriving DecidableEq, Repr

/-- The optional pointer input of one `frame()` call (53_orchestrator R502). -/
structure Zapper where
  x    : Nat
  y    : Nat
  fire : Bool
  deriving DecidableEq, Repr

/-- What a formula of `BREAK` can look at: a state element as a number (10_state R20; log 8). Booleans are 0 and 1. -/
inductive Observed where
  | a
  | x
  | y
  | sp
  | pc
  /-- The six flags in the layout of P, with bits 5 and 4 zero. -/
  | flags
  | cyclesToHalt
  | nmiPending
  | irqPending
  | ram (i : Nat)
  | scanline
  | curX
  | oddFrame
  | ctrl
  | mask
  | vblank
  | spr0Hit
  | sprOverflow
  | oamAddr
  | v
  | t
  | fineX
  | w
  | readBuffer
  | oam (i : Nat)
  | nametable (i : Nat)
  | palette (i : Nat)
  | requestEndFrame
  | nmiCounter
  /-- The number of rows rendered in this frame. -/
  | rowsRendered
  | frameWord (row column : Nat)
  | seqStep
  | seqCycles
  | frameIrqFlag
  | dmcIrqFlag
  /-- The length counter of pulse 1, pulse 2, triangle, noise, by number. -/
  | length (channel : Nat)
  | dmcBytes
  | dmcLevel
  | prgWin (i : Nat)
  | chrWin (i : Nat)
  | prgRam (i : Nat)
  | chrRam (i : Nat)
  /-- A register of the mapper, by its place in the variant's list (52_mappers R430, R445). -/
  | mapperReg (i : Nat)
  | strobe
  | ctrlShift0
  | ctrlShift1
  deriving DecidableEq, Repr

/-- The `BREAK` predicate over the machine state (53_orchestrator R481; log 8): a formula over observed state elements, or
the host's own predicate number `n`, of which nothing is known. -/
inductive BreakCond where
  | never
  | always
  | equals (o : Observed) (n : Nat)
  | less (o : Observed) (n : Nat)
  | bit (o : Observed) (k : Nat)
  | host (n : Nat)
  | both (p q : BreakCond)
  | either (p q : BreakCond)
  | negate (p : BreakCond)
  deriving DecidableEq, Repr

/-- What the host presents for the duration of one `frame()` call (53_orchestrator R470, R476). -/
structure Inputs where
  buttons0     : Byte
  buttons1     : Byte
  soundEnabled : Bool
  zapper       : Option Zapper
  brk          : BreakCond
  deriving DecidableEq, Repr

/-- An audio sample as an exact non-negative rational in lowest terms (51_apu R408). -/
structure Sample where
  num : Nat
  den : Nat
  deriving DecidableEq, Repr

/-- The machine. Fields in the order of INVENTORY.md: CPU, devices, orchestrator, inputs, parameters, model's own. -/
structure State where
  a                : Byte
  x                : Byte
  y                : Byte
  sp               : Byte
  pc               : Word
  p                : Flags
  cyclesToHalt     : Nat
  nmiPending       : Bool
  irqPending       : Bool
  resetMark        : Bool
  ram              : Memory
  ppu              : Ppu
  apu              : Apu
  mapper           : Mapper
  runState         : RunState
  breakpointCycles : Nat
  strobe           : Bool
  ctrlShift0       : Byte
  ctrlShift1       : Byte
  inputs           : Inputs
  rom              : RomImage
  cfg              : Config
  draws            : Nat
  stepCycles       : Nat
  inFrame          : Bool
  samples          : List Sample
  deriving DecidableEq, Repr

/-- `BREAK` when it is the host's own predicate on the machine state, number `n` of them (53_orchestrator R481; log 8). A free
value of Config like `Config.light`; it stands here because its argument is the state. -/
opaque hostBreak : Nat → State → Bool

/-- Why the machine stops with a fault. The machine has no faults (60_exceptions R250): there is no constructor,
so no step of the model answers a fault. -/
inductive Fault where
  deriving DecidableEq, Repr

/-- Why a step has no meaning. -/
inductive Refusal where
  /-- Raised by an arm of `exec` whose instruction has no meaning yet; no arm does. Safe. -/
  | notModelled (mnemonic : String)
  /-- Raised by `step` while the machine is unloaded: `frame()` is refused, with no effect (53_orchestrator R472). Safe. -/
  | frameWhileUnloaded
  /-- Raised by `step` while the machine is paused: `frame()` is refused, with no effect (53_orchestrator R472). Safe. -/
  | frameWhilePaused
  /-- Raised by a `NOP*` when the parameter `ILLEGAL_POLICY` is `refuse` (30_encoding R122; log 12). Safe. -/
  | undocumentedOpcode (op : Byte)
  deriving DecidableEq, Repr

/-- The outcome of a step or of an instruction. -/
abbrev Result := Host.Outcome State Fault Refusal

/-- The PPU after reset (50_ppu R301), with the mirroring of the ROM image. -/
def Ppu.afterReset (m : Mirroring) : Ppu where
  scanline         := 0
  curX             := 0
  oddFrame         := false
  ctrl             := 0x00#8
  mask             := 0x00#8
  vblank           := false
  spr0Hit          := false
  sprOverflow      := false
  oamAddr          := 0x00#8
  v                := 0#15
  t                := 0#15
  fineX            := 0#3
  w                := false
  readBuffer       := 0x00#8
  oam              := []
  nametableRam     := []
  paletteRam       := []
  mirroring        := m
  spr0HitX         := none
  spr0HitY         := none
  requestEndFrame  := false
  nmiCounter       := 0
  frameRows        := []
  lastRenderedLine := -1

/-- An envelope after reset (51_apu R361). -/
def Envelope.afterReset : Envelope where
  halt       := false
  constVol   := false
  volParam   := 0#4
  envStart   := false
  envDivider := 0
  envDecay   := 0

/-- A pulse channel after reset (51_apu R361). -/
def Pulse.afterReset : Pulse where
  enabled      := false
  duty         := 0#2
  env          := Envelope.afterReset
  sweepEnable  := false
  sweepPeriod  := 0#3
  sweepNegate  := false
  sweepShift   := 0#3
  sweepReload  := false
  sweepDivider := 0
  timerPeriod  := 0#11
  timer        := 0
  seqPos       := 0
  length       := 0

/-- The triangle channel after reset (51_apu R361). -/
def Triangle.afterReset : Triangle where
  enabled           := false
  control           := false
  linearReloadValue := 0#7
  linearCounter     := 0
  linearReloadFlag  := false
  timerPeriod       := 0#11
  timer             := 0
  seqPos            := 0
  length            := 0

/-- The noise channel after reset: `shift = 1` (51_apu R361). -/
def Noise.afterReset : Noise where
  enabled     := false
  env         := Envelope.afterReset
  mode        := false
  periodIndex := 0#4
  timer       := 0
  shift       := 1#15
  length      := 0

/-- The delta-modulation channel after reset: `bitsRemaining = 8`, `silence = true`, `curAddr = $C000` (51_apu R361). -/
def Dmc.afterReset : Dmc where
  irqEnable        := false
  loop             := false
  rateIndex        := 0#4
  timer            := 0
  level            := 0#7
  sampleAddrReg    := 0x00#8
  sampleLenReg     := 0x00#8
  curAddr          := 0xC000#16
  bytesRemaining   := 0
  sampleBuffer     := 0x00#8
  sampleBufferFull := false
  shiftReg         := 0x00#8
  bitsRemaining    := 8
  silence          := true
  dmcIrqFlag       := false

/-- The APU after reset (51_apu R361). -/
def Apu.afterReset : Apu where
  seqMode      := false
  seqStep      := 0
  seqCycles    := 0
  irqInhibit   := false
  frameIrqFlag := false
  pulse1       := Pulse.afterReset
  pulse2       := Pulse.afterReset
  triangle     := Triangle.afterReset
  noise        := Noise.afterReset
  dmc          := Dmc.afterReset
  sampleAcc    := 0

/-- The MMC1 registers at power-on (52_mappers R431). -/
def Mmc1.powerOn : Mmc1 where
  shiftReg      := 0#5
  shiftCount    := 0
  control       := 0x0C#5
  chrBank0      := 0#5
  chrBank1      := 0#5
  prgBank       := 0#5
  controlLoaded := false

/-- The MMC3 registers at power-on (52_mappers R446). -/
def Mmc3.powerOn : Mmc3 where
  bankSelect    := 0x00#8
  banks         := #v[0#8, 2#8, 4#8, 5#8, 6#8, 7#8, 0#8, 1#8]
  prgRamProtect := 0x80#8
  irqLatchValue := 0x00#8
  irqCounter    := 0x00#8
  irqReload     := false
  irqEnable     := false

/-- Default host inputs: no button pressed, sound on, no pointer, no break (00_scope R7; 53_orchestrator R507; log 15). -/
def Inputs.default : Inputs where
  buttons0     := 0x00#8
  buttons1     := 0x00#8
  soundEnabled := true
  zapper       := none
  brk          := .never

/-- The machine right after reset: `loadROM` of the blank cartridge with the default parameters
(70_reset_and_hazards R520, R521; log 1, log 2, log 3). Registers of the OPEN parameters hold the recommended
defaults; `pc` is the reset vector read from the blank cartridge; the memories list nothing. -/
def State.reset : State where
  a                := 0x00#8
  x                := 0x00#8
  y                := 0x00#8
  sp               := 0xFD#8
  pc               := 0x0000#16
  p                := ⟨false, false, false, true, false, false⟩
  cyclesToHalt     := 0
  nmiPending       := false
  irqPending       := false
  resetMark        := false
  ram              := []
  ppu              := Ppu.afterReset .horizontal
  apu              := Apu.afterReset
  mapper           := ⟨[], [], #v[0, 1, 2, 3], #v[0, 1, 2, 3, 4, 5, 6, 7], .nrom⟩
  runState         := .running
  breakpointCycles := 0
  strobe           := false
  ctrlShift0       := 0x00#8
  ctrlShift1       := 0x00#8
  inputs           := Inputs.default
  rom              := RomImage.blank
  cfg              := Config.default
  draws            := 0
  stepCycles       := 0
  inFrame          := false
  samples          := []

end Sys2Proof.Machine
end

