-- ==== Sys2Proof/Machine/Apu.lean ====
section
/-! DEFINITION. The APU's units as functions of its own state: register writes (51_apu R365 to R384), frame sequencer clocks
(R386 to R388), envelopes, sweeps and length counters (R394 to R396), timers (R390, R397, R400, R404), the DMC output
unit (R405), channel outputs (R392, R399, R401) and the mixer (R408). The cycle loop is in Machine/ApuClock.lean. -/

namespace Sys2Proof.Machine

/-- `LengthTable[0..31]` (51_apu R396). -/
def lengthTable : Vector Nat 32 := #v[
  10, 254, 20, 2, 40, 4, 80, 6, 160, 8, 60, 10, 14, 12, 26, 14,
  12, 16, 24, 18, 48, 20, 96, 22, 192, 24, 72, 26, 16, 28, 32, 30]

/-- `NoisePeriod[0..15]` (51_apu R400). -/
def noisePeriod : Vector Nat 16 := #v[4, 8, 16, 32, 64, 96, 128, 160, 202, 254, 380, 508, 762, 1016, 2034, 4068]

/-- `DmcRate[0..15]` (51_apu R404). -/
def dmcRate : Vector Nat 16 := #v[428, 380, 340, 320, 286, 254, 226, 214, 190, 160, 142, 128, 106, 84, 72, 54]

/-- The pulse waveforms by duty, as eight bits with position 0 leftmost (51_apu R391). -/
def dutyWave (d : BitVec 2) : BitVec 8 :=
  match d.toNat with
  | 0 => 0b01000000#8
  | 1 => 0b01100000#8
  | 2 => 0b01111000#8
  | _ => 0b10011111#8

/-- `TriSeq[seqPos]`: 15 down to 0, then 0 up to 15 (51_apu R399). -/
def triSeq (pos : Nat) : Nat := if pos < 16 then 15 - pos else pos - 16

/-- A length load, done only while the channel is enabled (51_apu R368, R375, R379, R396). -/
def loadLength (enabled : Bool) (length : Nat) (val : Byte) : Nat :=
  if enabled then lengthTable.get (val.extractLsb' 3 5).toFin else length

/-- A length counter on a half-frame clock (51_apu R396). -/
def clockLength (halted : Bool) (length : Nat) : Nat := if halted then length else length - 1

/-- The three control fields of an envelope from a register write (51_apu R365, R377). -/
def Envelope.writeControl (e : Envelope) (val : Byte) : Envelope :=
  { e with halt := val.getLsbD 5, constVol := val.getLsbD 4, volParam := val.extractLsb' 0 4 }

/-- An envelope on a quarter-frame clock (51_apu R394). -/
def Envelope.clock (e : Envelope) : Envelope :=
  if e.envStart then { e with envStart := false, envDecay := 15, envDivider := e.volParam.toNat }
  else if e.envDivider = 0 then
    { e with envDivider := e.volParam.toNat,
             envDecay := if 0 < e.envDecay then e.envDecay - 1 else if e.halt then 15 else e.envDecay }
  else { e with envDivider := e.envDivider - 1 }

/-- The envelope output, 0 to 15 (51_apu R394). -/
def Envelope.output (e : Envelope) : Nat := if e.constVol then e.volParam.toNat else e.envDecay

/-- `$4000`, `$4004`: pulse control (51_apu R365, R369). -/
def Pulse.writeControl (c : Pulse) (val : Byte) : Pulse :=
  { c with duty := val.extractLsb' 6 2, env := c.env.writeControl val }

/-- `$4001`, `$4005`: pulse sweep (51_apu R366, R370). -/
def Pulse.writeSweep (c : Pulse) (val : Byte) : Pulse :=
  { c with sweepEnable := val.getLsbD 7, sweepPeriod := val.extractLsb' 4 3, sweepNegate := val.getLsbD 3,
           sweepShift := val.extractLsb' 0 3, sweepReload := true }

/-- `$4002`, `$4006`: pulse timer low (51_apu R367, R371). -/
def Pulse.writeTimerLow (c : Pulse) (val : Byte) : Pulse :=
  { c with timerPeriod := c.timerPeriod.extractLsb' 8 3 ++ val }

/-- `$4003`, `$4007`: pulse length and timer high (51_apu R368, R372). -/
def Pulse.writeLength (c : Pulse) (val : Byte) : Pulse :=
  { c with timerPeriod := val.extractLsb' 0 3 ++ c.timerPeriod.extractLsb' 0 8,
           length := loadLength c.enabled c.length val, seqPos := 0, env := { c.env with envStart := true } }

/-- `$4015` bit of a pulse channel (51_apu R383). -/
def Pulse.enable (c : Pulse) (on : Bool) : Pulse :=
  { c with enabled := on, length := if on then c.length else 0 }

/-- The sweep target of a pulse channel; pulse 1 subtracts one more; floored at 0 (51_apu R395). -/
def Pulse.sweepTarget (first : Bool) (c : Pulse) : Nat :=
  let p := c.timerPeriod.toNat
  let change := p >>> c.sweepShift.toNat
  if c.sweepNegate then p - change - (if first then 1 else 0) else p + change

/-- The sweep unit mutes the channel (51_apu R395). -/
def Pulse.muted (first : Bool) (c : Pulse) : Bool :=
  decide (c.timerPeriod.toNat < 8) || decide (0x7FF < c.sweepTarget first)

/-- A sweep unit on a half-frame clock (51_apu R395). -/
def Pulse.clockSweep (first : Bool) (c : Pulse) : Pulse :=
  let adjusted :=
    if c.sweepDivider = 0 ∧ c.sweepEnable ∧ 0 < c.sweepShift.toNat ∧ c.muted first = false then
      { c with timerPeriod := BitVec.ofNat 11 (c.sweepTarget first) }
    else c
  if c.sweepDivider = 0 ∨ c.sweepReload then
    { adjusted with sweepDivider := c.sweepPeriod.toNat, sweepReload := false }
  else { adjusted with sweepDivider := c.sweepDivider - 1 }

/-- A pulse timer, one CPU cycle (51_apu R390). -/
def Pulse.clockTimer (c : Pulse) : Pulse :=
  if c.timer = 0 then { c with timer := 2 * (c.timerPeriod.toNat + 1) - 1, seqPos := (c.seqPos + 1) % 8 }
  else { c with timer := c.timer - 1 }

/-- Pulse output, 0 to 15 (51_apu R391, R392). -/
def Pulse.output (first : Bool) (c : Pulse) : Nat :=
  if c.length = 0 ∨ (dutyWave c.duty).getMsbD c.seqPos = false ∨ c.muted first then 0 else c.env.output

/-- `$4008`: triangle linear counter (51_apu R373). -/
def Triangle.writeLinear (c : Triangle) (val : Byte) : Triangle :=
  { c with control := val.getLsbD 7, linearReloadValue := val.extractLsb' 0 7 }

/-- `$400A`: triangle timer low (51_apu R374). -/
def Triangle.writeTimerLow (c : Triangle) (val : Byte) : Triangle :=
  { c with timerPeriod := c.timerPeriod.extractLsb' 8 3 ++ val }

/-- `$400B`: triangle length and timer high (51_apu R375). -/
def Triangle.writeLength (c : Triangle) (val : Byte) : Triangle :=
  { c with timerPeriod := val.extractLsb' 0 3 ++ c.timerPeriod.extractLsb' 0 8,
           length := loadLength c.enabled c.length val, linearReloadFlag := true }

/-- `$4015` bit of the triangle channel (51_apu R383). -/
def Triangle.enable (c : Triangle) (on : Bool) : Triangle :=
  { c with enabled := on, length := if on then c.length else 0 }

/-- The linear counter on a quarter-frame clock (51_apu R398). -/
def Triangle.clockLinear (c : Triangle) : Triangle :=
  { c with linearCounter := if c.linearReloadFlag then c.linearReloadValue.toNat else c.linearCounter - 1,
           linearReloadFlag := c.linearReloadFlag && c.control }

/-- The triangle timer, one CPU cycle (51_apu R397). -/
def Triangle.clockTimer (c : Triangle) : Triangle :=
  if c.timer = 0 then
    { c with timer := c.timerPeriod.toNat,
             seqPos := if 0 < c.length ∧ 0 < c.linearCounter then (c.seqPos + 1) % 32 else c.seqPos }
  else { c with timer := c.timer - 1 }

/-- `$400E`: noise period (51_apu R378). -/
def Noise.writePeriod (c : Noise) (val : Byte) : Noise :=
  { c with mode := val.getLsbD 7, periodIndex := val.extractLsb' 0 4 }

/-- `$400F`: noise length (51_apu R379). -/
def Noise.writeLength (c : Noise) (val : Byte) : Noise :=
  { c with length := loadLength c.enabled c.length val, env := { c.env with envStart := true } }

/-- `$4015` bit of the noise channel (51_apu R383). -/
def Noise.enable (c : Noise) (on : Bool) : Noise :=
  { c with enabled := on, length := if on then c.length else 0 }

/-- One step of the noise shift register (51_apu R400). -/
def noiseShift (mode : Bool) (shift : BitVec 15) : BitVec 15 :=
  let fb := shift.getLsbD 0 ^^ (if mode then shift.getLsbD 6 else shift.getLsbD 1)
  (shift >>> 1) ||| ((BitVec.ofBool fb).zeroExtend 15 <<< 14)

/-- The noise timer, one CPU cycle (51_apu R400). -/
def Noise.clockTimer (c : Noise) : Noise :=
  if c.timer = 0 then { c with timer := noisePeriod.get c.periodIndex.toFin - 1, shift := noiseShift c.mode c.shift }
  else { c with timer := c.timer - 1 }

/-- Noise output, 0 to 15 (51_apu R401). -/
def Noise.output (c : Noise) : Nat := if c.shift.getLsbD 0 ∨ c.length = 0 then 0 else c.env.output

/-- `$4010`: DMC control (51_apu R380). -/
def Dmc.writeControl (c : Dmc) (val : Byte) : Dmc :=
  { c with irqEnable := val.getLsbD 7, loop := val.getLsbD 6, rateIndex := val.extractLsb' 0 4,
           dmcIrqFlag := val.getLsbD 7 && c.dmcIrqFlag }

/-- Start the sample over: address and length from the registers (51_apu R382, R383). -/
def Dmc.restart (c : Dmc) : Dmc :=
  { c with curAddr := 0xC000#16 + BitVec.ofNat 16 (c.sampleAddrReg.toNat * 64),
           bytesRemaining := c.sampleLenReg.toNat * 16 + 1 }

/-- `$4015` bit 4: stop the sample, or start it when none is running; any write clears the flag (51_apu R383). -/
def Dmc.enable (c : Dmc) (on : Bool) : Dmc :=
  let d := if on then (if c.bytesRemaining = 0 then c.restart else c) else { c with bytesRemaining := 0 }
  { d with dmcIrqFlag := false }

/-- The memory reader wants a byte (51_apu R406). -/
def Dmc.wantsByte (c : Dmc) : Bool := !c.sampleBufferFull && decide (0 < c.bytesRemaining)

/-- The memory reader takes a byte: next address, one byte less, and the end of the sample (51_apu R406, R407). -/
def Dmc.takeByte (c : Dmc) (b : Byte) : Dmc :=
  let d := { c with sampleBuffer := b, sampleBufferFull := true,
                    curAddr := if c.curAddr = 0xFFFF#16 then 0x8000#16 else c.curAddr + 1,
                    bytesRemaining := c.bytesRemaining - 1 }
  if d.bytesRemaining = 0 then
    (if d.loop then d.restart else if d.irqEnable then { d with dmcIrqFlag := true } else d)
  else d

/-- The level after one delta bit (51_apu R405). -/
def dmcLevel (up : Bool) (level : BitVec 7) : BitVec 7 :=
  if up then (if level.toNat ≤ 125 then level + 2 else level) else (if 2 ≤ level.toNat then level - 2 else level)

/-- One DMC output cycle (51_apu R405). -/
def Dmc.outputCycle (c : Dmc) : Dmc :=
  let d := { c with level := if c.silence then c.level else dmcLevel (c.shiftReg.getLsbD 0) c.level,
                    shiftReg := c.shiftReg >>> 1, bitsRemaining := c.bitsRemaining - 1 }
  if d.bitsRemaining = 0 then
    (if d.sampleBufferFull then
      { d with bitsRemaining := 8, silence := false, shiftReg := d.sampleBuffer, sampleBufferFull := false }
    else { d with bitsRemaining := 8, silence := true })
  else d

/-- The DMC timer, one CPU cycle (51_apu R404). -/
def Dmc.clockTimer (c : Dmc) : Dmc :=
  if c.timer = 0 then { c with timer := dmcRate.get c.rateIndex.toFin - 1 }.outputCycle
  else { c with timer := c.timer - 1 }

/-- A quarter-frame clock: the three envelopes and the linear counter (51_apu R388). -/
def Apu.quarterFrame (u : Apu) : Apu :=
  { u with pulse1 := { u.pulse1 with env := u.pulse1.env.clock },
           pulse2 := { u.pulse2 with env := u.pulse2.env.clock },
           noise := { u.noise with env := u.noise.env.clock },
           triangle := u.triangle.clockLinear }

/-- A half-frame clock: the four length counters and the two sweep units (51_apu R388). -/
def Apu.halfFrame (u : Apu) : Apu :=
  { u with pulse1 := Pulse.clockSweep true { u.pulse1 with length := clockLength u.pulse1.env.halt u.pulse1.length },
           pulse2 := Pulse.clockSweep false { u.pulse2 with length := clockLength u.pulse2.env.halt u.pulse2.length },
           triangle := { u.triangle with length := clockLength u.triangle.control u.triangle.length },
           noise := { u.noise with length := clockLength u.noise.env.halt u.noise.length } }

/-- A sequencer step of the four-step sequence (51_apu R386). -/
def Apu.fourStep (u : Apu) : Apu :=
  let u1 := { u with seqStep := (u.seqStep + 1) % 4 }
  match u.seqStep with
  | 0 => u1.quarterFrame
  | 1 => u1.quarterFrame.halfFrame
  | 2 => u1.quarterFrame
  | 3 =>
    let u2 := u1.quarterFrame.halfFrame
    if u2.irqInhibit then u2 else { u2 with frameIrqFlag := true }
  | _ => u1

/-- A sequencer step of the five-step sequence (51_apu R387). -/
def Apu.fiveStep (u : Apu) : Apu :=
  let u1 := { u with seqStep := (u.seqStep + 1) % 5 }
  match u.seqStep with
  | 0 => u1.quarterFrame
  | 1 => u1.quarterFrame.halfFrame
  | 2 => u1.quarterFrame
  | 3 => u1
  | 4 => u1.quarterFrame.halfFrame
  | _ => u1

/-- The frame sequencer, one CPU cycle (51_apu R385). -/
def Apu.clockSequencer (period : Nat) (u : Apu) : Apu :=
  if u.seqCycles + 1 = period then
    (let u1 := { u with seqCycles := 0 }
     if u1.seqMode then u1.fiveStep else u1.fourStep)
  else { u with seqCycles := u.seqCycles + 1 }

/-- The five timers, one CPU cycle each (51_apu R385). -/
def Apu.clockTimers (u : Apu) : Apu :=
  { u with pulse1 := u.pulse1.clockTimer, pulse2 := u.pulse2.clockTimer, triangle := u.triangle.clockTimer,
           noise := u.noise.clockTimer, dmc := u.dmc.clockTimer }

/-- `$4015` write: channel enables and DMC start or stop (51_apu R383). -/
def Apu.writeEnable (u : Apu) (val : Byte) : Apu :=
  { u with pulse1 := u.pulse1.enable (val.getLsbD 0), pulse2 := u.pulse2.enable (val.getLsbD 1),
           triangle := u.triangle.enable (val.getLsbD 2), noise := u.noise.enable (val.getLsbD 3),
           dmc := u.dmc.enable (val.getLsbD 4) }

/-- `$4017` write: frame counter mode (51_apu R384). -/
def Apu.writeFrameCounter (u : Apu) (val : Byte) : Apu :=
  let u1 := { u with seqMode := val.getLsbD 7, irqInhibit := val.getLsbD 6,
                     frameIrqFlag := !val.getLsbD 6 && u.frameIrqFlag, seqStep := 0, seqCycles := 0 }
  if val.getLsbD 7 then u1.quarterFrame.halfFrame else u1

/-- A write to `$4000 + r` for `r` from 0 to `$13`; `$4009` and `$400D` are unused (51_apu R365 to R382). -/
def Apu.writeChannel (u : Apu) (r : Nat) (val : Byte) : Apu :=
  match r with
  | 0x00 => { u with pulse1 := u.pulse1.writeControl val }
  | 0x01 => { u with pulse1 := u.pulse1.writeSweep val }
  | 0x02 => { u with pulse1 := u.pulse1.writeTimerLow val }
  | 0x03 => { u with pulse1 := u.pulse1.writeLength val }
  | 0x04 => { u with pulse2 := u.pulse2.writeControl val }
  | 0x05 => { u with pulse2 := u.pulse2.writeSweep val }
  | 0x06 => { u with pulse2 := u.pulse2.writeTimerLow val }
  | 0x07 => { u with pulse2 := u.pulse2.writeLength val }
  | 0x08 => { u with triangle := u.triangle.writeLinear val }
  | 0x0A => { u with triangle := u.triangle.writeTimerLow val }
  | 0x0B => { u with triangle := u.triangle.writeLength val }
  | 0x0C => { u with noise := { u.noise with env := u.noise.env.writeControl val } }
  | 0x0E => { u with noise := u.noise.writePeriod val }
  | 0x0F => { u with noise := u.noise.writeLength val }
  | 0x10 => { u with dmc := u.dmc.writeControl val }
  | 0x11 => { u with dmc := { u.dmc with level := val.extractLsb' 0 7 } }
  | 0x12 => { u with dmc := { u.dmc with sampleAddrReg := val } }
  | 0x13 => { u with dmc := { u.dmc with sampleLenReg := val } }
  | _    => u

/-- `$4015` read value, with bit 5 from a drawn byte (51_apu R383). -/
def Apu.statusByte (u : Apu) (d : Byte) : Byte :=
  BitVec.ofBool u.dmc.dmcIrqFlag ++ BitVec.ofBool u.frameIrqFlag ++ d.extractLsb' 5 1 ++
  BitVec.ofBool (decide (0 < u.dmc.bytesRemaining)) ++ BitVec.ofBool (decide (0 < u.noise.length)) ++
  BitVec.ofBool (decide (0 < u.triangle.length)) ++ BitVec.ofBool (decide (0 < u.pulse2.length)) ++
  BitVec.ofBool (decide (0 < u.pulse1.length))

/-- A fraction in lowest terms. -/
def Sample.ofFraction (n d : Nat) : Sample := ⟨n / Nat.gcd n d, d / Nat.gcd n d⟩

/-- The mixer on channel outputs, an exact rational (51_apu R408): with `p = p1 + p2`,
`pulse_out = 9588 p / (100 (8128 + 100 p))`, and with `s = S / D` over the common denominator `D`,
`tnd_out = 15979 S / (100 (D + 100 S))`. -/
def mixer (p1 p2 t n d : Nat) : Sample :=
  let p := p1 + p2
  let den := 8227 * 12241 * 22638
  let s := t * (12241 * 22638) + n * (8227 * 22638) + d * (8227 * 12241)
  let n1 := 9588 * p
  let d1 := 100 * (8128 + 100 * p)
  let n2 := 15979 * s
  let d2 := 100 * (den + 100 * s)
  Sample.ofFraction (n1 * d2 + n2 * d1) (d1 * d2)

/-- The sample of the present channel outputs (51_apu R409). -/
def Apu.sample (u : Apu) : Sample :=
  mixer (u.pulse1.output true) (u.pulse2.output false) (triSeq u.triangle.seqPos) u.noise.output u.dmc.level.toNat

end Sys2Proof.Machine
end

