-- ==== Sys2Proof/Machine/Flags.lean ====
section
/-! DEFINITION. The status register as a byte (10_state R27) and every flag computation of the instruction rules
(42_arith_logic R170 to R179; 43_shift_incdec R190 to R195). Each computation gives a result byte and the new flags. -/

namespace Sys2Proof.Machine

/-- `setNZ(v)`: N is bit 7, Z says whether the byte is zero (00_scope R9). -/
def Flags.setNZ (p : Flags) (v : Byte) : Flags :=
  { p with n := v.msb, z := v == 0 }

/-- The pushed image of P: `N V 1 b D I Z C` (10_state R27). -/
def Flags.image (p : Flags) (b : Bool) : Byte :=
  BitVec.ofBool p.n ++ BitVec.ofBool p.v ++ 1#1 ++ BitVec.ofBool b ++
  BitVec.ofBool p.d ++ BitVec.ofBool p.i ++ BitVec.ofBool p.z ++ BitVec.ofBool p.c

/-- The flags pulled from a byte: bits 7, 6, 3, 2, 1, 0; bits 5 and 4 are ignored (10_state R27). -/
def Flags.ofByte (v : Byte) : Flags :=
  ⟨v.getLsbD 7, v.getLsbD 6, v.getLsbD 3, v.getLsbD 2, v.getLsbD 1, v.getLsbD 0⟩

/-- The 9-bit sum of two bytes and a carry (42_arith_logic R170). -/
def sum9 (a m : Byte) (c : Bool) : BitVec 9 :=
  a.zeroExtend 9 + m.zeroExtend 9 + (BitVec.ofBool c).zeroExtend 9

/-- ADC on values: result and flags (42_arith_logic R170). D has no effect (R180). -/
def adcValue (a m : Byte) (p : Flags) : Byte × Flags :=
  let sum := sum9 a m p.c
  let r : Byte := sum.extractLsb' 0 8
  (r, { p with c := sum.getLsbD 8, v := ((a ^^^ r) &&& (m ^^^ r)).msb }.setNZ r)

/-- SBC on values: ADC with the operand complemented (42_arith_logic R171). -/
def sbcValue (a m : Byte) (p : Flags) : Byte × Flags :=
  adcValue a (m ^^^ 0xFF#8) p

/-- AND on values (42_arith_logic R172). -/
def andValue (a m : Byte) (p : Flags) : Byte × Flags :=
  (a &&& m, p.setNZ (a &&& m))

/-- ORA on values (42_arith_logic R173). -/
def oraValue (a m : Byte) (p : Flags) : Byte × Flags :=
  (a ||| m, p.setNZ (a ||| m))

/-- EOR on values (42_arith_logic R174). -/
def eorValue (a m : Byte) (p : Flags) : Byte × Flags :=
  (a ^^^ m, p.setNZ (a ^^^ m))

/-- The flags of a compare of register value `r` with `m` (42_arith_logic R175 to R177). -/
def compareFlags (r m : Byte) (p : Flags) : Flags :=
  { p with c := decide (m.toNat ≤ r.toNat), z := r == m, n := (r - m).msb }

/-- The flags of BIT: Z from the AND, N and V from the operand (42_arith_logic R178). -/
def bitFlags (a m : Byte) (p : Flags) : Flags :=
  { p with z := (a &&& m) == 0, n := m.getLsbD 7, v := m.getLsbD 6 }

/-- ASL on a value (43_shift_incdec R190). -/
def aslValue (b : Byte) (p : Flags) : Byte × Flags :=
  (b <<< 1, { p with c := b.getLsbD 7 }.setNZ (b <<< 1))

/-- LSR on a value (43_shift_incdec R191). -/
def lsrValue (b : Byte) (p : Flags) : Byte × Flags :=
  (b >>> 1, { p with c := b.getLsbD 0 }.setNZ (b >>> 1))

/-- ROL on a value: the old carry enters bit 0 (43_shift_incdec R192). -/
def rolValue (b : Byte) (p : Flags) : Byte × Flags :=
  let r : Byte := (b <<< 1) ||| (BitVec.ofBool p.c).zeroExtend 8
  (r, { p with c := b.getLsbD 7 }.setNZ r)

/-- ROR on a value: the old carry enters bit 7 (43_shift_incdec R193). -/
def rorValue (b : Byte) (p : Flags) : Byte × Flags :=
  let r : Byte := ((BitVec.ofBool p.c).zeroExtend 8 <<< 7) ||| (b >>> 1)
  (r, { p with c := b.getLsbD 0 }.setNZ r)

/-- INC on a value: C and V untouched (43_shift_incdec R194). -/
def incValue (b : Byte) (p : Flags) : Byte × Flags :=
  (b + 1, p.setNZ (b + 1))

/-- DEC on a value: C and V untouched (43_shift_incdec R195). -/
def decValue (b : Byte) (p : Flags) : Byte × Flags :=
  (b - 1, p.setNZ (b - 1))

end Sys2Proof.Machine
end

