-- ==== Sys2Proof/Machine/Memory.lean ====
section
/-! DEFINITION. Sparse stores: reading, writing, and the canonical form. Used for internal RAM, cartridge RAM, ROM, pattern
RAM, OAM, nametable RAM and palette RAM (10_state R33; 50_ppu R300; 52_mappers R420). -/

namespace Sys2Proof.Machine

/-- What an index that is not listed reads as. DESIGN CHOICE (log 3): zero. -/
def Store.unlisted {w : Nat} : BitVec w := 0

/-- The cell at an index. -/
def Store.read {w : Nat} : Store w → Nat → BitVec w
  | [], _ => Store.unlisted
  | (k, v) :: rest, i => if i = k then v else Store.read rest i

/-- Drop every entry for an index. -/
def Store.erase {w : Nat} (m : Store w) (i : Nat) : Store w :=
  m.filter fun e => e.1 != i

/-- Put an entry before the first one with a larger index. -/
def Store.insert {w : Nat} : Store w → Nat → BitVec w → Store w
  | [], i, b => [(i, b)]
  | (k, v) :: rest, i, b => if i < k then (i, b) :: (k, v) :: rest else (k, v) :: Store.insert rest i b

/-- Set the cell at an index, keeping the canonical form: a cell set to what an unlisted index reads as is dropped. -/
def Store.write {w : Nat} (m : Store w) (i : Nat) (b : BitVec w) : Store w :=
  if b = Store.unlisted then Store.erase m i else Store.insert (Store.erase m i) i b

/-- Every index of the store is above `i` (or there is no bound), indexes rise, and no value is the unlisted one. -/
def Store.wfFrom {w : Nat} : Option Nat → Store w → Bool
  | _, [] => true
  | low, (k, v) :: rest =>
    (match low with
      | none => true
      | some l => decide (l < k)) && v != Store.unlisted && Store.wfFrom (some k) rest

/-- The canonical form: indexes strictly rising and no entry equal to what an unlisted index reads as. -/
def Store.wf {w : Nat} (m : Store w) : Bool := Store.wfFrom none m

/-- The canonical form of a byte memory. -/
abbrev Memory.wf (m : Memory) : Bool := Store.wf (w := 8) m

/-- Every listed index is below a size. -/
def Store.below {w : Nat} (m : Store w) (size : Nat) : Bool := m.all fun e => decide (e.1 < size)

/-- The store that holds a list of cells from an index on; zero cells are not listed. -/
def Store.ofListFrom {w : Nat} : Nat → List (BitVec w) → Store w
  | _, [] => []
  | i, b :: rest =>
    if b = Store.unlisted then Store.ofListFrom (i + 1) rest else (i, b) :: Store.ofListFrom (i + 1) rest

/-- The memory that holds a list of bytes from index 0 on. -/
def Memory.ofBytes (bs : List Byte) : Memory := Store.ofListFrom 0 bs

end Sys2Proof.Machine
end

