-- ==== Sys2Proof/Machine/Mapper.lean ====
section
/-! DEFINITION. The mapper bank-switch engine: window translation, NROM, MMC1, MMC3 (52_mappers R420 to R462), cartridge RAM
(20_memory R69) and the three operations the rest of the machine calls: `write8`, `clockIrqCounter`, power-on. -/

namespace Sys2Proof.Machine

/-- `NB8`, the number of 8 KB PRG banks (52_mappers R420). -/
def nb8 (r : RomImage) : Nat := r.prgLen / 8192

/-- `NB16`, the number of 16 KB PRG banks (52_mappers R420). -/
def nb16 (r : RomImage) : Nat := r.prgLen / 16384

/-- `NC1`, the number of 1 KB CHR banks (52_mappers R420). -/
def nc1 (r : RomImage) : Nat := max r.chrLen 8192 / 1024

/-- `NC4`, the number of 4 KB CHR banks (52_mappers R420). -/
def nc4 (r : RomImage) : Nat := nc1 r / 4

/-- An index into the four PRG windows. -/
def win4 (n : Nat) : Fin 4 := ⟨n % 4, Nat.mod_lt _ (by decide)⟩

/-- An index into the eight CHR windows or the eight MMC3 bank slots. -/
def win8 (n : Nat) : Fin 8 := ⟨n % 8, Nat.mod_lt _ (by decide)⟩

/-- `prgMap(a)`: the offset into PRG of a CPU address in `$8000-$FFFF` (52_mappers R422). -/
def prgMap (m : Mapper) (a : Nat) : Nat :=
  m.prgWin.get (win4 ((a - 0x8000) / 8192)) * 8192 + a % 8192

/-- `chrMap(a)`: the offset into CHR of a PPU address in `$0000-$1FFF` (52_mappers R423). -/
def chrMap (m : Mapper) (a : Nat) : Nat :=
  m.chrWin.get (win8 (a / 1024)) * 1024 + a % 1024

/-- The program byte at a CPU address in `$8000-$FFFF` (20_memory R70). -/
def prgRead (s : State) (a : Nat) : Byte :=
  Store.read s.rom.prg (prgMap s.mapper a)

/-- The cell of pattern RAM at a PPU address in `$0000-$1FFF`: through the window table (52_mappers R423; 50_ppu R316), or the
address itself (the cells of 50_ppu R311). DESIGN CHOICE (log 24): which of the two is a parameter. -/
def patternRamCell (s : State) (a : Nat) : Nat :=
  match s.cfg.patternRam with
  | .windowed => chrMap s.mapper a
  | .direct   => a

/-- The pattern byte at a PPU address in `$0000-$1FFF` (50_ppu R311; 52_mappers R423). -/
def chrRead (s : State) (a : Nat) : Byte :=
  if s.rom.chrLen = 0 then Store.read s.mapper.chrRam (patternRamCell s a)
  else Store.read s.rom.chr (chrMap s.mapper a)

/-- A write to pattern memory: only pattern RAM changes (50_ppu R311; 52_mappers R423). -/
def chrWrite (s : State) (a : Nat) (v : Byte) : State :=
  if s.rom.chrLen = 0 then
    { s with mapper := { s.mapper with chrRam := Store.write s.mapper.chrRam (patternRamCell s a) v } }
  else s

/-- Cartridge RAM may be read: always, but for MMC3 only while bit 7 of `prgRamProtect` is 1 (20_memory R69). -/
def cartRamReadable (m : Mapper) : Bool :=
  match m.regs with
  | .mmc3 r => r.prgRamProtect.getLsbD 7
  | .mmc1 _ => true
  | .nrom   => true

/-- Cartridge RAM may be written: for MMC3 only while bit 7 is 1 and bit 6 is 0 (20_memory R69). -/
def cartRamWritable (m : Mapper) : Bool :=
  match m.regs with
  | .mmc3 r => r.prgRamProtect.getLsbD 7 && !r.prgRamProtect.getLsbD 6
  | .mmc1 _ => true
  | .nrom   => true

/-- `setMirroring(mode)` (50_ppu R314). -/
def setMirroring (m : Mirroring) (s : State) : State :=
  { s with ppu := { s.ppu with mirroring := m } }

/-- `setMirroring` as a mapper calls it: ignored when the image's mirroring is four-screen (52_mappers R441, R453). -/
def mapperSetMirroring (m : Mirroring) (s : State) : State :=
  if s.rom.mirroring = .fourScreen then s else setMirroring m s

/-- The PRG window table of MMC1 (52_mappers R441). -/
def mmc1PrgWin (r : Mmc1) (rom : RomImage) : Vector Nat 4 :=
  let mode := (r.control.extractLsb' 2 2).toNat
  let b := (r.prgBank.extractLsb' 0 4).toNat
  let n := nb16 rom
  let lo16 := if mode < 2 then 2 * (b / 2) % n else if mode = 2 then 0 else b % n
  let hi16 := if mode < 2 then (2 * (b / 2) + 1) % n else if mode = 2 then b % n else n - 1
  #v[2 * lo16, 2 * lo16 + 1, 2 * hi16, 2 * hi16 + 1]

/-- The CHR window table of MMC1 (52_mappers R441). -/
def mmc1ChrWin (r : Mmc1) (rom : RomImage) : Vector Nat 8 :=
  let b0 := r.chrBank0.toNat
  let b1 := r.chrBank1.toNat
  let n := nc4 rom
  let lo4 := if r.control.getLsbD 4 then b0 % n else 2 * (b0 / 2) % n
  let hi4 := if r.control.getLsbD 4 then b1 % n else (2 * (b0 / 2) + 1) % n
  #v[4 * lo4, 4 * lo4 + 1, 4 * lo4 + 2, 4 * lo4 + 3, 4 * hi4, 4 * hi4 + 1, 4 * hi4 + 2, 4 * hi4 + 3]

/-- The mirroring mode of the MMC1 control register (52_mappers R437). -/
def mmc1Mirroring (r : Mmc1) : Mirroring :=
  match (r.control.extractLsb' 0 2).toNat with
  | 0 => .singleLower
  | 1 => .singleUpper
  | 2 => .vertical
  | _ => .horizontal

/-- MMC1 `update()`: windows from the registers, and mirroring once the control register was loaded
(52_mappers R441, R431; log 14). -/
def mmc1Update (r : Mmc1) (s : State) : State :=
  let s1 := { s with mapper := { s.mapper with
    prgWin := mmc1PrgWin r s.rom, chrWin := mmc1ChrWin r s.rom, regs := .mmc1 r } }
  if r.controlLoaded then mapperSetMirroring (mmc1Mirroring r) s1 else s1

/-- The MMC1 register a completed serial load goes to, by address bits 14 and 13 (52_mappers R432). -/
def mmc1Load (r : Mmc1) (a : Word) (v : BitVec 5) : Mmc1 :=
  match (a.extractLsb' 13 2).toNat with
  | 0 => { r with control := v, controlLoaded := true }
  | 1 => { r with chrBank0 := v }
  | 2 => { r with chrBank1 := v }
  | _ => { r with prgBank := v }

/-- MMC1 `write8` (52_mappers R435, R436). -/
def mmc1Write (r : Mmc1) (a : Word) (val : Byte) (s : State) : State :=
  if val.getLsbD 7 then
    mmc1Update { r with shiftReg := 0#5, shiftCount := 0, control := r.control ||| 0x0C#5 } s
  else
    let shifted := r.shiftReg ||| ((val.extractLsb' 0 1).zeroExtend 5 <<< r.shiftCount)
    if r.shiftCount + 1 = 5 then
      mmc1Update { mmc1Load r a shifted with shiftReg := 0#5, shiftCount := 0 } s
    else
      { s with mapper := { s.mapper with regs := .mmc1 { r with shiftReg := shifted, shiftCount := r.shiftCount + 1 } } }

/-- The PRG window table of MMC3 (52_mappers R460). -/
def mmc3PrgWin (r : Mmc3) (rom : RomImage) : Vector Nat 4 :=
  let n := nb8 rom
  let r6 := (r.banks.get 6).toNat % n
  let r7 := (r.banks.get 7).toNat % n
  if r.bankSelect.getLsbD 6 then #v[n - 2, r7, r6, n - 1] else #v[r6, r7, n - 2, n - 1]

/-- The CHR window table of MMC3 (52_mappers R461). -/
def mmc3ChrWin (r : Mmc3) (rom : RomImage) : Vector Nat 8 :=
  let n := nc1 rom
  let e0 := (r.banks.get 0 &&& 0xFE#8).toNat % n
  let e1 := (r.banks.get 1 &&& 0xFE#8).toNat % n
  let c2 := (r.banks.get 2).toNat % n
  let c3 := (r.banks.get 3).toNat % n
  let c4 := (r.banks.get 4).toNat % n
  let c5 := (r.banks.get 5).toNat % n
  if r.bankSelect.getLsbD 7 then #v[c2, c3, c4, c5, e0, e0 + 1, e1, e1 + 1]
  else #v[e0, e0 + 1, e1, e1 + 1, c2, c3, c4, c5]

/-- MMC3 `updateBanks()` (52_mappers R460, R461). -/
def mmc3Update (r : Mmc3) (s : State) : State :=
  { s with mapper := { s.mapper with
    prgWin := mmc3PrgWin r s.rom, chrWin := mmc3ChrWin r s.rom, regs := .mmc3 r } }

/-- Set the MMC3 registers without touching the windows. -/
def mmc3Set (r : Mmc3) (s : State) : State :=
  { s with mapper := { s.mapper with regs := .mmc3 r } }

/-- The MMC3 register number of an address, `((a >> 12) AND 6) OR (a AND 1)` (52_mappers R450). -/
def mmc3Register (a : Word) : Nat :=
  (((a >>> 12) &&& 6#16) ||| (a &&& 1#16)).toNat

/-- MMC3 `write8` (52_mappers R450 to R457, R459). -/
def mmc3Write (r : Mmc3) (a : Word) (val : Byte) (s : State) : State :=
  match mmc3Register a with
  | 0 => mmc3Update { r with bankSelect := val } s
  | 1 => mmc3Update { r with banks := r.banks.set (win8 (r.bankSelect.toNat % 8)) val } s
  | 2 => mapperSetMirroring (if val.getLsbD 0 then .horizontal else .vertical) s
  | 3 => mmc3Set { r with prgRamProtect := val } s
  | 4 => mmc3Set { r with irqLatchValue := val } s
  | 5 => mmc3Set { r with irqCounter := 0#8, irqReload := true } s
  | 6 => mmc3Set { r with irqEnable := false } s
  | _ => mmc3Set { r with irqEnable := true } s

/-- `write8(address, value)`: a CPU write into `$8000-$FFFF` (20_memory R70; 52_mappers R421). -/
def mapperWrite8 (a : Word) (val : Byte) (s : State) : State :=
  match s.mapper.regs with
  | .nrom   => s
  | .mmc1 r => mmc1Write r a val s
  | .mmc3 r => mmc3Write r a val s

/-- MMC3 counter after one scanline clock (52_mappers R458). -/
def mmc3Clocked (r : Mmc3) : Mmc3 :=
  if r.irqReload ∨ r.irqCounter = 0#8 then { r with irqCounter := r.irqLatchValue, irqReload := false }
  else { r with irqCounter := r.irqCounter - 1 }

/-- `clockIrqCounter()`: MMC3 counts and may request an IRQ; the others do nothing (52_mappers R458; 50_ppu R343). -/
def clockIrqCounter (s : State) : State :=
  match s.mapper.regs with
  | .nrom   => s
  | .mmc1 _ => s
  | .mmc3 r =>
    let r1 := mmc3Clocked r
    let s1 := mmc3Set r1 s
    if r1.irqCounter = 0#8 ∧ r1.irqEnable then { s1 with irqPending := true } else s1

/-- The mapper at power-on, over given cartridge RAM (52_mappers R426, R431, R446; `chrRam` zero, R420). -/
def Mapper.powerOn (rom : RomImage) (prgRam : Memory) : Mapper :=
  match rom.mapperId with
  | .nrom =>
    let n := nb8 rom
    ⟨prgRam, [], #v[0 % n, 1 % n, 2 % n, 3 % n], #v[0, 1, 2, 3, 4, 5, 6, 7], .nrom⟩
  | .mmc1 => ⟨prgRam, [], mmc1PrgWin Mmc1.powerOn rom, mmc1ChrWin Mmc1.powerOn rom, .mmc1 Mmc1.powerOn⟩
  | .mmc3 => ⟨prgRam, [], mmc3PrgWin Mmc3.powerOn rom, mmc3ChrWin Mmc3.powerOn rom, .mmc3 Mmc3.powerOn⟩

end Sys2Proof.Machine
end

