-- ==== Sys2Proof/Machine/Ppu.lean ====
section
/-! DEFINITION. PPU memory (50_ppu R311 to R316) and the CPU-visible PPU registers `$2000` to `$2007` (50_ppu R320 to R328),
with the open-bus draw (20_memory R73). -/

namespace Sys2Proof.Machine

/-- One open-bus draw: a free byte, a fresh one each time (20_memory R73; log 4). -/
def drawOpenBus (s : State) : Byte × State :=
  (Config.openBus s.draws, { s with draws := s.draws + 1 })

/-- The physical nametable page of a logical nametable (50_ppu R313). -/
def nametablePage (m : Mirroring) (n : Nat) : Nat :=
  match m with
  | .horizontal  => n / 2
  | .vertical    => n % 2
  | .singleLower => 0
  | .singleUpper => 1
  | .fourScreen  => n

/-- `ntMap(a)` for `a` in `$2000-$2FFF` or its mirror `$3000-$3EFF` (50_ppu R311, R313). -/
def ntMap (m : Mirroring) (a : Nat) : Nat :=
  nametablePage m (a % 0x1000 / 1024) * 1024 + a % 1024

/-- `palIndex(a)`: entries `$10`, `$14`, `$18`, `$1C` alias `$00`, `$04`, `$08`, `$0C` (50_ppu R315). -/
def palIndex (a : Nat) : Nat :=
  let i := a % 32
  if 16 ≤ i ∧ i % 4 = 0 then i - 16 else i

/-- `PpuRead(a)`; the address is first reduced modulo `$4000` (50_ppu R311, R312). -/
def ppuRead (s : State) (addr : Nat) : Byte :=
  let a := addr % 0x4000
  if a < 0x2000 then chrRead s a
  else if a < 0x3F00 then Store.read s.ppu.nametableRam (ntMap s.ppu.mirroring a)
  else (Store.read s.ppu.paletteRam (palIndex a)).zeroExtend 8

/-- `PpuWrite(a, v)` (50_ppu R311, R312). Palette entries keep six bits (R315). -/
def ppuWrite (s : State) (addr : Nat) (v : Byte) : State :=
  let a := addr % 0x4000
  if a < 0x2000 then chrWrite s a v
  else if a < 0x3F00 then
    { s with ppu := { s.ppu with
      nametableRam := Store.write s.ppu.nametableRam (ntMap s.ppu.mirroring a) v } }
  else
    { s with ppu := { s.ppu with
      paletteRam := Store.write s.ppu.paletteRam (palIndex a) (v.extractLsb' 0 6) } }

/-- Rendering is enabled: background or sprites are shown (50_ppu R321). -/
def Ppu.rendering (u : Ppu) : Bool := u.mask.getLsbD 3 || u.mask.getLsbD 4

/-- The `$2007` address increment (50_ppu R327). -/
def Ppu.increment (u : Ppu) : BitVec 15 := if u.ctrl.getLsbD 2 then 32#15 else 1#15

/-- `$2000` PPUCTRL write: `ctrl <- val; t[11:10] <- val[1:0]` (50_ppu R320). -/
def Ppu.writeCtrl (u : Ppu) (val : Byte) : Ppu :=
  { u with ctrl := val, t := u.t.extractLsb' 12 3 ++ val.extractLsb' 0 2 ++ u.t.extractLsb' 0 10 }

/-- `$2005` PPUSCROLL write, first or second (50_ppu R325). -/
def Ppu.writeScroll (u : Ppu) (val : Byte) : Ppu :=
  if u.w then
    { u with t := val.extractLsb' 0 3 ++ u.t.extractLsb' 10 2 ++ val.extractLsb' 3 5 ++ u.t.extractLsb' 0 5, w := false }
  else
    { u with t := u.t.extractLsb' 5 10 ++ val.extractLsb' 3 5, fineX := val.extractLsb' 0 3, w := true }

/-- `$2006` PPUADDR write, first or second (50_ppu R326). -/
def Ppu.writeAddr (u : Ppu) (val : Byte) : Ppu :=
  if u.w then
    let t : BitVec 15 := u.t.extractLsb' 8 7 ++ val
    { u with t := t, v := t, w := false }
  else
    { u with t := 0#1 ++ val.extractLsb' 0 6 ++ u.t.extractLsb' 0 8, w := true }

/-- `$2004` OAMDATA write (50_ppu R324). -/
def Ppu.writeOamData (u : Ppu) (val : Byte) : Ppu :=
  { u with oam := Store.write u.oam u.oamAddr.toNat val, oamAddr := u.oamAddr + 1 }

/-- `$2004` OAMDATA read: attribute bits 4:2 read as 0; `oamAddr` does not change (50_ppu R324). -/
def Ppu.readOamData (u : Ppu) : Byte :=
  let b := Store.read u.oam u.oamAddr.toNat
  if u.oamAddr.toNat % 4 = 2 then b &&& 0xE3#8 else b

/-- `$2007` PPUDATA write (50_ppu R327). -/
def ppuWriteData (val : Byte) (s : State) : State :=
  let s1 := ppuWrite s s.ppu.v.toNat val
  { s1 with ppu := { s1.ppu with v := s1.ppu.v + s1.ppu.increment } }

/-- `$2007` PPUDATA read: buffered below `$3F00`, direct above, with two drawn bits (50_ppu R327). -/
def ppuReadData (s : State) : Byte × State :=
  let a := s.ppu.v.toNat % 0x4000
  let v := s.ppu.v + s.ppu.increment
  if a < 0x3F00 then
    (s.ppu.readBuffer, { s with ppu := { s.ppu with readBuffer := ppuRead s a, v := v } })
  else
    let d := drawOpenBus s
    (d.1.extractLsb' 6 2 ++ Store.read s.ppu.paletteRam (palIndex a),
      { d.2 with ppu := { s.ppu with readBuffer := ppuRead s (a - 0x1000), v := v } })

/-- `$2002` PPUSTATUS read: three flags and five drawn bits; clears VBlank and the toggle (50_ppu R322). -/
def ppuReadStatus (s : State) : Byte × State :=
  let d := drawOpenBus s
  (BitVec.ofBool s.ppu.vblank ++ BitVec.ofBool s.ppu.spr0Hit ++ BitVec.ofBool s.ppu.sprOverflow ++ d.1.extractLsb' 0 5,
    { d.2 with ppu := { s.ppu with vblank := false, w := false } })

/-- A read of PPU register number `r` (50_ppu R320 to R328). Write-only registers read as open bus. -/
def ppuRegRead (r : Nat) (s : State) : Byte × State :=
  match r with
  | 2 => ppuReadStatus s
  | 4 => (s.ppu.readOamData, s)
  | 7 => ppuReadData s
  | _ => drawOpenBus s

/-- A write to PPU register number `r` (50_ppu R320 to R328). `$2002` is read-only. -/
def ppuRegWrite (r : Nat) (val : Byte) (s : State) : State :=
  match r with
  | 0 => { s with ppu := s.ppu.writeCtrl val }
  | 1 => { s with ppu := { s.ppu with mask := val } }
  | 2 => s
  | 3 => { s with ppu := { s.ppu with oamAddr := val } }
  | 4 => { s with ppu := s.ppu.writeOamData val }
  | 5 => { s with ppu := s.ppu.writeScroll val }
  | 6 => { s with ppu := s.ppu.writeAddr val }
  | _ => ppuWriteData val s

end Sys2Proof.Machine
end

