-- ==== Sys2Proof/Machine/Ops.lean ====
section
/-! DEFINITION. The named operations over registers and the CPU bus: register updates, the address map (20_memory R61), `MemRead`,
`MemWrite`, sprite DMA (50_ppu R329), the stack (00_scope R11), interrupt requests, taking an exception and returning
from one (60_exceptions R253, R256; 45_system_flags R231), and the reset operation (70_reset_and_hazards R520). -/

namespace Sys2Proof.Machine

/-- `A <- v`. -/
def State.setA (s : State) (v : Byte) : State := { s with a := v }

/-- `X <- v`. -/
def State.setX (s : State) (v : Byte) : State := { s with x := v }

/-- `Y <- v`. -/
def State.setY (s : State) (v : Byte) : State := { s with y := v }

/-- `S <- v`. -/
def State.setSp (s : State) (v : Byte) : State := { s with sp := v }

/-- `PC <- w`. -/
def State.setPc (s : State) (w : Word) : State := { s with pc := w }

/-- Set all six flags. -/
def State.setP (s : State) (p : Flags) : State := { s with p := p }

/-- `setNZ(v)` on the machine's flags (00_scope R9). -/
def State.setNZ (s : State) (v : Byte) : State := s.setP (s.p.setNZ v)

/-- The cycle count the step returns (00_scope R13). -/
def State.setCycles (s : State) (c : Nat) : State := { s with stepCycles := c }

/-- An instruction is done: it took `c` cycles (00_scope R13; log 10). -/
def finish (c : Nat) (s : State) : Result := .next (s.setCycles c)

/-- What stands at a CPU address: one alternative for each row of the address map (20_memory R61). -/
inductive BusTarget where
  | ram (i : Nat)
  | ppuReg (r : Nat)
  | apuChannel (r : Nat)
  | oamDma
  | apuStatus
  | port1
  | port2
  | nothing
  | expansion
  | cartRam (i : Nat)
  | prg
  deriving DecidableEq, Repr

/-- The CPU address map; every address falls in exactly one row (20_memory R61 to R70). -/
def busTarget (addr : Word) : BusTarget :=
  let a := addr.toNat
  if a < 0x2000 then .ram (a % 0x800)
  else if a < 0x4000 then .ppuReg (a % 8)
  else if a < 0x4014 then .apuChannel (a - 0x4000)
  else if a = 0x4014 then .oamDma
  else if a = 0x4015 then .apuStatus
  else if a = 0x4016 then .port1
  else if a = 0x4017 then .port2
  else if a < 0x4020 then .nothing
  else if a < 0x6000 then .expansion
  else if a < 0x8000 then .cartRam (a - 0x6000)
  else .prg

/-- One serial read of a controller: the bit and the shifted register (53_orchestrator R501). -/
def shiftController (strobe : Bool) (shift buttons : Byte) : Bool × Byte :=
  let c := if strobe then buttons else shift
  (c.getLsbD 0, (c >>> 1) ||| 0x80#8)

/-- `$4016` read (53_orchestrator R501). -/
def readPort1 (s : State) : Byte × State :=
  let d := drawOpenBus s
  let c := shiftController s.strobe s.ctrlShift0 s.inputs.buttons0
  (d.1.extractLsb' 5 3 ++ 0#4 ++ BitVec.ofBool c.1, { d.2 with ctrlShift0 := c.2 })

/-- Bits 4 and 3 of a `$4017` read: trigger, and 0 for light seen; both 0 without a pointer (53_orchestrator R502; log 7). -/
def zapperBits (s : State) : BitVec 2 :=
  match s.inputs.zapper with
  | none   => 0#2
  | some z => BitVec.ofBool z.fire ++ BitVec.ofBool (!Config.light s.draws z.x z.y)

/-- `$4017` read (53_orchestrator R501, R502). -/
def readPort2 (s : State) : Byte × State :=
  let d := drawOpenBus s
  let c := shiftController s.strobe s.ctrlShift1 s.inputs.buttons1
  (d.1.extractLsb' 5 3 ++ zapperBits s ++ 0#2 ++ BitVec.ofBool c.1, { d.2 with ctrlShift1 := c.2 })

/-- `$4016` write: the strobe (53_orchestrator R500). -/
def writeStrobe (val : Byte) (s : State) : State :=
  if val.getLsbD 0 then
    { s with strobe := true, ctrlShift0 := s.inputs.buttons0, ctrlShift1 := s.inputs.buttons1 }
  else { s with strobe := false }

/-- `$4015` read: status; clears the frame interrupt flag (51_apu R383). -/
def readApuStatus (s : State) : Byte × State :=
  let d := drawOpenBus s
  (s.apu.statusByte d.1, { d.2 with apu := { s.apu with frameIrqFlag := false } })

/-- `MemRead(addr)`: one CPU-bus read with every side effect of its address (00_scope R10; 20_memory R61 to R73, R77). -/
def memRead (a : Word) (s : State) : Byte × State :=
  match busTarget a with
  | .ram i        => (Store.read s.ram i, s)
  | .ppuReg r     => ppuRegRead r s
  | .apuChannel _ => drawOpenBus s
  | .oamDma       => drawOpenBus s
  | .apuStatus    => readApuStatus s
  | .port1        => readPort1 s
  | .port2        => readPort2 s
  | .nothing      => drawOpenBus s
  | .expansion    => drawOpenBus s
  | .cartRam i    => if cartRamReadable s.mapper then (Store.read s.mapper.prgRam i, s) else drawOpenBus s
  | .prg          => (prgRead s a.toNat, s)

/-- The copy loop of the sprite DMA: `n` bytes from offset `i` of the page on, in ascending order (50_ppu R329). -/
def dmaCopy : Nat → Nat → Byte → State → State
  | 0, _, _, s => s
  | n + 1, i, page, s =>
    let r := memRead (joinBytes page (BitVec.ofNat 8 i)) s
    dmaCopy n (i + 1) page { r.2 with ppu := { r.2.ppu with
      oam := Store.write r.2.ppu.oam ((r.2.ppu.oamAddr.toNat + i) % 256) r.1 } }

/-- `$4014` write: the whole sprite DMA, and its stall (50_ppu R329; 20_memory R65, R86). -/
def oamDma (page : Byte) (s : State) : State :=
  let s1 := dmaCopy 256 0 page s
  { s1 with cyclesToHalt := s1.cyclesToHalt + s1.cfg.oamDmaStall }

/-- `MemWrite(addr, v)`: one CPU-bus write with every effect of its address (00_scope R10; 20_memory R61 to R72, R78). -/
def memWrite (a : Word) (v : Byte) (s : State) : State :=
  match busTarget a with
  | .ram i        => { s with ram := Store.write s.ram i v }
  | .ppuReg r     => ppuRegWrite r v s
  | .apuChannel r => { s with apu := s.apu.writeChannel r v }
  | .oamDma       => oamDma v s
  | .apuStatus    => { s with apu := s.apu.writeEnable v }
  | .port1        => writeStrobe v s
  | .port2        => { s with apu := s.apu.writeFrameCounter v }
  | .nothing      => s
  | .expansion    => s
  | .cartRam i    =>
    if cartRamWritable s.mapper then
      { s with mapper := { s.mapper with prgRam := Store.write s.mapper.prgRam i v } }
    else s
  | .prg          => mapperWrite8 a v s

/-- `MemRead16(addr)`: low byte first, then the high byte at the next address, modulo 65,536 (00_scope R10). -/
def memRead16 (a : Word) (s : State) : Word × State :=
  let l := memRead a s
  let h := memRead (a + 1) l.2
  (joinBytes h.1 l.1, h.2)

/-- `MemRead16zp(z)`: both bytes from page zero (00_scope R10). -/
def memRead16zp (z : Byte) (s : State) : Word × State :=
  let l := memRead (zext16 z) s
  let h := memRead (zext16 (z + 1)) l.2
  (joinBytes h.1 l.1, h.2)

/-- The address of the next free stack slot, `$0100 + S` (10_state R25). -/
def stackAddr (sp : Byte) : Word := joinBytes 0x01#8 sp

/-- `Push(v)` (00_scope R11). -/
def push (v : Byte) (s : State) : State :=
  (memWrite (stackAddr s.sp) v s).setSp (s.sp - 1)

/-- `Pull()` (00_scope R11). -/
def pull (s : State) : Byte × State :=
  memRead (stackAddr (s.sp + 1)) (s.setSp (s.sp + 1))

/-- `Push16(w)`: high byte first (00_scope R11). -/
def push16 (w : Word) (s : State) : State := push (loByte w) (push (hiByte w) s)

/-- `Pull16()`: low byte first (00_scope R11). -/
def pull16 (s : State) : Word × State :=
  let l := pull s
  let h := pull l.2
  (joinBytes h.1 l.1, h.2)

/-- The NMI vector (60_exceptions R256). -/
def nmiVector : Word := 0xFFFA#16

/-- The reset vector (70_reset_and_hazards R520). -/
def resetVector : Word := 0xFFFC#16

/-- The vector IRQ and BRK share (60_exceptions R256; 45_system_flags R230). -/
def irqVector : Word := 0xFFFE#16

/-- Taking an exception: push the return address, push the status with B as given, set I, load PC from the vector.
NMI and IRQ entry push B = 0 (60_exceptions R256), BRK pushes B = 1 (45_system_flags R230). -/
def takeException (ret : Word) (b : Bool) (vector : Word) (s : State) : State :=
  let s1 := push (s.p.image b) (push16 ret s)
  let r := memRead16 vector (s1.setP { s1.p with i := true })
  r.2.setPc r.1

/-- Returning from an exception: pull the six flags, then PC (45_system_flags R231; 60_exceptions R259). -/
def returnFromException (s : State) : State :=
  let f := pull s
  let r := pull16 (f.2.setP (Flags.ofByte f.1))
  r.2.setPc r.1

/-- The kinds of `requestIrq` (60_exceptions R253). -/
inductive IrqKind where
  | irq
  | nmi
  | reset
  deriving DecidableEq, Repr

/-- `requestIrq(kind)`: set a latch or mark a reset; nothing else changes (60_exceptions R253; 10_state R32). -/
def requestIrq (k : IrqKind) (s : State) : State :=
  match k with
  | .irq   => { s with irqPending := true }
  | .nmi   => { s with nmiPending := true }
  | .reset => { s with resetMark := true }

/-- The flags after reset: those of `RESET_P`, with I forced to 1 (10_state R39). -/
def resetFlags (resetP : Byte) : Flags := { Flags.ofByte resetP with i := true }

/-- Steps 1 to 5 of the reset operation, over given cartridge RAM (70_reset_and_hazards R520). -/
def resetBlocks (prgRam : Memory) (s : State) : State :=
  { s with
    mapper := Mapper.powerOn s.rom prgRam
    ppu := Ppu.afterReset s.rom.mirroring
    apu := Apu.afterReset
    strobe := false
    ctrlShift0 := 0x00#8
    ctrlShift1 := 0x00#8
    a := s.cfg.resetA
    x := s.cfg.resetX
    y := s.cfg.resetY
    sp := s.cfg.resetS
    p := resetFlags s.cfg.resetP
    cyclesToHalt := 0
    nmiPending := false
    irqPending := false
    resetMark := false
    ram := s.cfg.ramInit }

/-- The reset operation over given cartridge RAM; last, PC from the reset vector (70_reset_and_hazards R520). -/
def resetWith (prgRam : Memory) (s : State) : State :=
  let r := memRead16 resetVector (resetBlocks prgRam s)
  r.2.setPc r.1

/-- `raise Interrupt(RESET)` and `reset()`: cartridge RAM is kept when `BATTERY` is set (70_reset_and_hazards R520). -/
def performReset (s : State) : State :=
  resetWith (if s.rom.battery then s.mapper.prgRam else s.cfg.prgRamInit) s

end Sys2Proof.Machine
end

