-- ==== Sys2Proof/Machine/ApuClock.lean ====
section
/-! DEFINITION. The APU's cycle loop (51_apu R385, R406, R409, R410): it reaches the CPU bus through the DMC memory reader and
the host through the sample output. -/

namespace Sys2Proof.Machine

/-- Part 1 of a cycle: the frame sequencer (51_apu R385). -/
def sequencerCycle (s : State) : State :=
  { s with apu := s.apu.clockSequencer s.cfg.frameSeqPeriod }

/-- Part 2 of a cycle: the DMC memory reader, a CPU-bus read that takes no CPU cycle (51_apu R406). -/
def dmcReaderCycle (s : State) : State :=
  if s.apu.dmc.wantsByte then
    let r := memRead s.apu.dmc.curAddr s
    { r.2 with apu := { r.2.apu with dmc := r.2.apu.dmc.takeByte r.1 } }
  else s

/-- Part 3 of a cycle: the five timers (51_apu R385). -/
def timersCycle (s : State) : State := { s with apu := s.apu.clockTimers }

/-- One sample to the host, when sound is enabled (51_apu R409; 53_orchestrator R504, R509). -/
def emitSample (s : State) : State :=
  if s.inputs.soundEnabled then { s with samples := s.samples ++ [s.apu.sample] } else s

/-- Part 4 of a cycle: the sample pacer (51_apu R409, R410). -/
def pacerCycle (s : State) : State :=
  let acc := s.apu.sampleAcc + s.cfg.sampleRate
  if s.cfg.cpuHz ≤ acc then emitSample { s with apu := { s.apu with sampleAcc := acc - s.cfg.cpuHz } }
  else { s with apu := { s.apu with sampleAcc := acc } }

/-- `ApuCycle(emit)` (51_apu R385). -/
def apuCycle (s : State) : State := pacerCycle (timersCycle (dmcReaderCycle (sequencerCycle s)))

/-- `n` APU cycles. -/
def apuCycles : Nat → State → State
  | 0, s => s
  | n + 1, s => apuCycles n (apuCycle s)

/-- An APU interrupt flag is set (51_apu R389). -/
def Apu.irqLine (u : Apu) : Bool := u.frameIrqFlag || u.dmc.dmcIrqFlag

/-- `clockFrameCounter(n, emit)` (51_apu R385, R389). -/
def clockFrameCounter (n : Nat) (s : State) : State :=
  let s1 := apuCycles n s
  if s1.apu.irqLine then requestIrq .irq s1 else s1

end Sys2Proof.Machine
end

