-- ==== Sys2Proof/Machine/Operands.lean ====
section
/-! DEFINITION. The addressing modes that form a data operand (30_encoding R105, R108 to R118) and the shared shapes of the
instruction rules over them: load, store, accumulate, compare, read-modify-write, branch. -/

namespace Sys2Proof.Machine

/-- A data operand as the instruction's bytes give it (30_encoding R108 to R116). -/
inductive Operand where
  | imm (b1 : Byte)
  | zp (b1 : Byte)
  | zpx (b1 : Byte)
  | zpy (b1 : Byte)
  | abs (w : Word)
  | absx (w : Word)
  | absy (w : Word)
  | indx (b1 : Byte)
  | indy (b1 : Byte)
  deriving DecidableEq, Repr

/-- An effective address, whether indexing carried into the high byte, and the state after the pointer reads (30_encoding R105). -/
structure Effective where
  ea      : Word
  crossed : Bool
  state   : State

/-- An operand value, whether indexing crossed a page, and the state after the reads. -/
structure Fetched where
  value   : Byte
  crossed : Bool
  state   : State

/-- `hi(a) != hi(b)`: the two addresses lie in different pages (30_encoding R113, R117). -/
def pageDiffers (a b : Word) : Bool := hiByte a != hiByte b

/-- An indexed absolute address and its page-cross flag (30_encoding R113, R114, R116). -/
def indexed (base : Word) (index : Byte) (s : State) : Effective :=
  let ea := base + zext16 index
  ⟨ea, pageDiffers ea base, s⟩

/-- The effective address of an operand. An immediate has none (30_encoding R108); it is given address 0 and read by `readOperand`
without an access. -/
def resolve (o : Operand) (s : State) : Effective :=
  match o with
  | .imm _   => ⟨0#16, false, s⟩
  | .zp b1   => ⟨zext16 b1, false, s⟩
  | .zpx b1  => ⟨zext16 (b1 + s.x), false, s⟩
  | .zpy b1  => ⟨zext16 (b1 + s.y), false, s⟩
  | .abs w   => ⟨w, false, s⟩
  | .absx w  => indexed w s.x s
  | .absy w  => indexed w s.y s
  | .indx b1 =>
    let r := memRead16zp (b1 + s.x) s
    ⟨r.1, false, r.2⟩
  | .indy b1 =>
    let r := memRead16zp b1 s
    indexed r.1 s.y r.2

/-- The operand value: the immediate byte itself, else one read at the effective address (30_encoding R105, R108). -/
def readOperand (o : Operand) (s : State) : Fetched :=
  match o with
  | .imm b1 => ⟨b1, false, s⟩
  | o =>
    let e := resolve o s
    let r := memRead e.ea e.state
    ⟨r.1, e.crossed, r.2⟩

/-- One more cycle when a page was crossed (30_encoding R105). -/
def penalty (crossed : Bool) : Nat := if crossed then 1 else 0

/-- Load a register: `v <- operand; reg <- v; setNZ(v)` (40_load_store R131 to R133). -/
def loadRegister (put : State → Byte → State) (o : Operand) (base : Nat) (s : State) : Result :=
  let r := readOperand o s
  finish (base + penalty r.crossed) ((put r.state r.value).setNZ r.value)

/-- Store a value at the operand's address; no flag, never a penalty (40_load_store R134 to R136). -/
def storeValue (v : Byte) (o : Operand) (base : Nat) (s : State) : Result :=
  let e := resolve o s
  finish base (memWrite e.ea v e.state)

/-- Combine A with the operand: A and flags from a computation on values (42_arith_logic R170 to R174). -/
def accumulate (f : Byte → Byte → Flags → Byte × Flags) (o : Operand) (base : Nat) (s : State) : Result :=
  let r := readOperand o s
  let v := f s.a r.value s.p
  finish (base + penalty r.crossed) ((r.state.setA v.1).setP v.2)

/-- Compare a register value with the operand: only flags change (42_arith_logic R175 to R177). -/
def compareWith (reg : Byte) (o : Operand) (base : Nat) (s : State) : Result :=
  let r := readOperand o s
  finish (base + penalty r.crossed) (r.state.setP (compareFlags reg r.value s.p))

/-- Test bits of the operand with A: only flags change (42_arith_logic R178). -/
def bitTest (o : Operand) (base : Nat) (s : State) : Result :=
  let r := readOperand o s
  finish base (r.state.setP (bitFlags s.a r.value s.p))

/-- Read-modify-write on memory: one read, then one write of the result; no penalty (43_shift_incdec R200). -/
def modifyMemory (f : Byte → Flags → Byte × Flags) (o : Operand) (base : Nat) (s : State) : Result :=
  let e := resolve o s
  let r := memRead e.ea e.state
  let v := f r.1 s.p
  finish base ((memWrite e.ea v.1 r.2).setP v.2)

/-- The accumulator form of a shift or rotate (30_encoding R107; 43_shift_incdec R190 to R193). -/
def modifyAccumulator (f : Byte → Flags → Byte × Flags) (base : Nat) (s : State) : Result :=
  let v := f s.a s.p
  finish base ((s.setA v.1).setP v.2)

/-- Give a register a value and set N and Z from it (41_transfer_stack R150 to R154; 43_shift_incdec R196 to R199). -/
def moveRegister (put : State → Byte → State) (v : Byte) (base : Nat) (s : State) : Result :=
  finish base ((put s v).setNZ v)

/-- The branch template: PC is already past the branch; 2 cycles not taken, 3 taken, 4 taken to another page
(44_control R213; 30_encoding R117). -/
def branchIf (cond : Bool) (b1 : Byte) (s : State) : Result :=
  if cond then
    let target := s.pc + sext16 b1
    finish (3 + penalty (pageDiffers target s.pc)) (s.setPc target)
  else finish 2 s

/-- A NOP-equivalent of the given cycle count; under `ILLEGAL_POLICY = refuse` it has no meaning
(45_system_flags R240; 30_encoding R122; log 12). -/
def nopEquivalent (op : Byte) (base : Nat) (s : State) : Result :=
  match s.cfg.illegalPolicy with
  | .nop    => finish base s
  | .refuse => .refused (.undocumentedOpcode op)

end Sys2Proof.Machine
end

