-- ==== Sys2Proof/Machine/Arith.lean ====
section
/-! DEFINITION. Arithmetic, logic, compares and the bit test (42_arith_logic R170 to R180). The flag computations are in Machine/Flags.lean;
the D flag is no input of any of them (R180). -/

namespace Sys2Proof.Machine

/-- `61` ADC ($nn,X) (42_arith_logic R170; 6 cycles). -/
def execAdcIndx (b1 : Byte) (s : State) : Result :=
  accumulate adcValue (.indx b1) 6 s

/-- `65` ADC $nn (42_arith_logic R170; 3 cycles). -/
def execAdcZp (b1 : Byte) (s : State) : Result :=
  accumulate adcValue (.zp b1) 3 s

/-- `69` ADC #$nn (42_arith_logic R170; 2 cycles). -/
def execAdcImm (b1 : Byte) (s : State) : Result :=
  accumulate adcValue (.imm b1) 2 s

/-- `6D` ADC $nnnn (42_arith_logic R170; 4 cycles). -/
def execAdcAbs (w : Word) (s : State) : Result :=
  accumulate adcValue (.abs w) 4 s

/-- `71` ADC ($nn),Y (42_arith_logic R170; 5 cycles, one more on a page crossing). -/
def execAdcIndy (b1 : Byte) (s : State) : Result :=
  accumulate adcValue (.indy b1) 5 s

/-- `75` ADC $nn,X (42_arith_logic R170; 4 cycles). -/
def execAdcZpx (b1 : Byte) (s : State) : Result :=
  accumulate adcValue (.zpx b1) 4 s

/-- `79` ADC $nnnn,Y (42_arith_logic R170; 4 cycles, one more on a page crossing). -/
def execAdcAbsy (w : Word) (s : State) : Result :=
  accumulate adcValue (.absy w) 4 s

/-- `7D` ADC $nnnn,X (42_arith_logic R170; 4 cycles, one more on a page crossing). -/
def execAdcAbsx (w : Word) (s : State) : Result :=
  accumulate adcValue (.absx w) 4 s

/-- `E1` SBC ($nn,X) (42_arith_logic R171; 6 cycles). -/
def execSbcIndx (b1 : Byte) (s : State) : Result :=
  accumulate sbcValue (.indx b1) 6 s

/-- `E5` SBC $nn (42_arith_logic R171; 3 cycles). -/
def execSbcZp (b1 : Byte) (s : State) : Result :=
  accumulate sbcValue (.zp b1) 3 s

/-- `E9` SBC #$nn (42_arith_logic R171; 2 cycles). -/
def execSbcImm (b1 : Byte) (s : State) : Result :=
  accumulate sbcValue (.imm b1) 2 s

/-- `ED` SBC $nnnn (42_arith_logic R171; 4 cycles). -/
def execSbcAbs (w : Word) (s : State) : Result :=
  accumulate sbcValue (.abs w) 4 s

/-- `F1` SBC ($nn),Y (42_arith_logic R171; 5 cycles, one more on a page crossing). -/
def execSbcIndy (b1 : Byte) (s : State) : Result :=
  accumulate sbcValue (.indy b1) 5 s

/-- `F5` SBC $nn,X (42_arith_logic R171; 4 cycles). -/
def execSbcZpx (b1 : Byte) (s : State) : Result :=
  accumulate sbcValue (.zpx b1) 4 s

/-- `F9` SBC $nnnn,Y (42_arith_logic R171; 4 cycles, one more on a page crossing). -/
def execSbcAbsy (w : Word) (s : State) : Result :=
  accumulate sbcValue (.absy w) 4 s

/-- `FD` SBC $nnnn,X (42_arith_logic R171; 4 cycles, one more on a page crossing). -/
def execSbcAbsx (w : Word) (s : State) : Result :=
  accumulate sbcValue (.absx w) 4 s

/-- `21` AND ($nn,X) (42_arith_logic R172; 6 cycles). -/
def execAndIndx (b1 : Byte) (s : State) : Result :=
  accumulate andValue (.indx b1) 6 s

/-- `25` AND $nn (42_arith_logic R172; 3 cycles). -/
def execAndZp (b1 : Byte) (s : State) : Result :=
  accumulate andValue (.zp b1) 3 s

/-- `29` AND #$nn (42_arith_logic R172; 2 cycles). -/
def execAndImm (b1 : Byte) (s : State) : Result :=
  accumulate andValue (.imm b1) 2 s

/-- `2D` AND $nnnn (42_arith_logic R172; 4 cycles). -/
def execAndAbs (w : Word) (s : State) : Result :=
  accumulate andValue (.abs w) 4 s

/-- `31` AND ($nn),Y (42_arith_logic R172; 5 cycles, one more on a page crossing). -/
def execAndIndy (b1 : Byte) (s : State) : Result :=
  accumulate andValue (.indy b1) 5 s

/-- `35` AND $nn,X (42_arith_logic R172; 4 cycles). -/
def execAndZpx (b1 : Byte) (s : State) : Result :=
  accumulate andValue (.zpx b1) 4 s

/-- `39` AND $nnnn,Y (42_arith_logic R172; 4 cycles, one more on a page crossing). -/
def execAndAbsy (w : Word) (s : State) : Result :=
  accumulate andValue (.absy w) 4 s

/-- `3D` AND $nnnn,X (42_arith_logic R172; 4 cycles, one more on a page crossing). -/
def execAndAbsx (w : Word) (s : State) : Result :=
  accumulate andValue (.absx w) 4 s

/-- `01` ORA ($nn,X) (42_arith_logic R173; 6 cycles). -/
def execOraIndx (b1 : Byte) (s : State) : Result :=
  accumulate oraValue (.indx b1) 6 s

/-- `05` ORA $nn (42_arith_logic R173; 3 cycles). -/
def execOraZp (b1 : Byte) (s : State) : Result :=
  accumulate oraValue (.zp b1) 3 s

/-- `09` ORA #$nn (42_arith_logic R173; 2 cycles). -/
def execOraImm (b1 : Byte) (s : State) : Result :=
  accumulate oraValue (.imm b1) 2 s

/-- `0D` ORA $nnnn (42_arith_logic R173; 4 cycles). -/
def execOraAbs (w : Word) (s : State) : Result :=
  accumulate oraValue (.abs w) 4 s

/-- `11` ORA ($nn),Y (42_arith_logic R173; 5 cycles, one more on a page crossing). -/
def execOraIndy (b1 : Byte) (s : State) : Result :=
  accumulate oraValue (.indy b1) 5 s

/-- `15` ORA $nn,X (42_arith_logic R173; 4 cycles). -/
def execOraZpx (b1 : Byte) (s : State) : Result :=
  accumulate oraValue (.zpx b1) 4 s

/-- `19` ORA $nnnn,Y (42_arith_logic R173; 4 cycles, one more on a page crossing). -/
def execOraAbsy (w : Word) (s : State) : Result :=
  accumulate oraValue (.absy w) 4 s

/-- `1D` ORA $nnnn,X (42_arith_logic R173; 4 cycles, one more on a page crossing). -/
def execOraAbsx (w : Word) (s : State) : Result :=
  accumulate oraValue (.absx w) 4 s

/-- `41` EOR ($nn,X) (42_arith_logic R174; 6 cycles). -/
def execEorIndx (b1 : Byte) (s : State) : Result :=
  accumulate eorValue (.indx b1) 6 s

/-- `45` EOR $nn (42_arith_logic R174; 3 cycles). -/
def execEorZp (b1 : Byte) (s : State) : Result :=
  accumulate eorValue (.zp b1) 3 s

/-- `49` EOR #$nn (42_arith_logic R174; 2 cycles). -/
def execEorImm (b1 : Byte) (s : State) : Result :=
  accumulate eorValue (.imm b1) 2 s

/-- `4D` EOR $nnnn (42_arith_logic R174; 4 cycles). -/
def execEorAbs (w : Word) (s : State) : Result :=
  accumulate eorValue (.abs w) 4 s

/-- `51` EOR ($nn),Y (42_arith_logic R174; 5 cycles, one more on a page crossing). -/
def execEorIndy (b1 : Byte) (s : State) : Result :=
  accumulate eorValue (.indy b1) 5 s

/-- `55` EOR $nn,X (42_arith_logic R174; 4 cycles). -/
def execEorZpx (b1 : Byte) (s : State) : Result :=
  accumulate eorValue (.zpx b1) 4 s

/-- `59` EOR $nnnn,Y (42_arith_logic R174; 4 cycles, one more on a page crossing). -/
def execEorAbsy (w : Word) (s : State) : Result :=
  accumulate eorValue (.absy w) 4 s

/-- `5D` EOR $nnnn,X (42_arith_logic R174; 4 cycles, one more on a page crossing). -/
def execEorAbsx (w : Word) (s : State) : Result :=
  accumulate eorValue (.absx w) 4 s

/-- `C1` CMP ($nn,X) (42_arith_logic R175; 6 cycles). -/
def execCmpIndx (b1 : Byte) (s : State) : Result :=
  compareWith s.a (.indx b1) 6 s

/-- `C5` CMP $nn (42_arith_logic R175; 3 cycles). -/
def execCmpZp (b1 : Byte) (s : State) : Result :=
  compareWith s.a (.zp b1) 3 s

/-- `C9` CMP #$nn (42_arith_logic R175; 2 cycles). -/
def execCmpImm (b1 : Byte) (s : State) : Result :=
  compareWith s.a (.imm b1) 2 s

/-- `CD` CMP $nnnn (42_arith_logic R175; 4 cycles). -/
def execCmpAbs (w : Word) (s : State) : Result :=
  compareWith s.a (.abs w) 4 s

/-- `D1` CMP ($nn),Y (42_arith_logic R175; 5 cycles, one more on a page crossing). -/
def execCmpIndy (b1 : Byte) (s : State) : Result :=
  compareWith s.a (.indy b1) 5 s

/-- `D5` CMP $nn,X (42_arith_logic R175; 4 cycles). -/
def execCmpZpx (b1 : Byte) (s : State) : Result :=
  compareWith s.a (.zpx b1) 4 s

/-- `D9` CMP $nnnn,Y (42_arith_logic R175; 4 cycles, one more on a page crossing). -/
def execCmpAbsy (w : Word) (s : State) : Result :=
  compareWith s.a (.absy w) 4 s

/-- `DD` CMP $nnnn,X (42_arith_logic R175; 4 cycles, one more on a page crossing). -/
def execCmpAbsx (w : Word) (s : State) : Result :=
  compareWith s.a (.absx w) 4 s

/-- `E0` CPX #$nn (42_arith_logic R176; 2 cycles). -/
def execCpxImm (b1 : Byte) (s : State) : Result :=
  compareWith s.x (.imm b1) 2 s

/-- `E4` CPX $nn (42_arith_logic R176; 3 cycles). -/
def execCpxZp (b1 : Byte) (s : State) : Result :=
  compareWith s.x (.zp b1) 3 s

/-- `EC` CPX $nnnn (42_arith_logic R176; 4 cycles). -/
def execCpxAbs (w : Word) (s : State) : Result :=
  compareWith s.x (.abs w) 4 s

/-- `C0` CPY #$nn (42_arith_logic R177; 2 cycles). -/
def execCpyImm (b1 : Byte) (s : State) : Result :=
  compareWith s.y (.imm b1) 2 s

/-- `C4` CPY $nn (42_arith_logic R177; 3 cycles). -/
def execCpyZp (b1 : Byte) (s : State) : Result :=
  compareWith s.y (.zp b1) 3 s

/-- `CC` CPY $nnnn (42_arith_logic R177; 4 cycles). -/
def execCpyAbs (w : Word) (s : State) : Result :=
  compareWith s.y (.abs w) 4 s

/-- `24` BIT $nn (42_arith_logic R178; 3 cycles). -/
def execBitZp (b1 : Byte) (s : State) : Result :=
  bitTest (.zp b1) 3 s

/-- `2C` BIT $nnnn (42_arith_logic R178; 4 cycles). -/
def execBitAbs (w : Word) (s : State) : Result :=
  bitTest (.abs w) 4 s

end Sys2Proof.Machine
end

