-- ==== Sys2Proof/Machine/Control.lean ====
section
/-! DEFINITION. Jumps, call, return and the conditional branches (44_control R210 to R222). PC is already past the instruction (30_encoding R102). -/

namespace Sys2Proof.Machine

/-- The target of `JMP (w)`: the high byte comes from the same page as the low byte (44_control R210; 30_encoding R118). -/
def jumpPointer (w : Word) (s : State) : Word × State :=
  let l := memRead w s
  let h := memRead (joinBytes (hiByte w) (loByte w + 1)) l.2
  (joinBytes h.1 l.1, h.2)

/-- `4C` JMP $nnnn (44_control R210; 3 cycles). -/
def execJmpAbs (w : Word) (s : State) : Result :=
  finish 3 (s.setPc w)

/-- `6C` JMP ($nnnn) (44_control R210; 5 cycles). -/
def execJmpInd (w : Word) (s : State) : Result :=
  let r := jumpPointer w s
  finish 5 (r.2.setPc r.1)

/-- `20` JSR $nnnn (44_control R211; 6 cycles). -/
def execJsr (w : Word) (s : State) : Result :=
  finish 6 ((push16 (s.pc - 1) s).setPc w)

/-- `60` RTS (44_control R212; 6 cycles). -/
def execRts (s : State) : Result :=
  let r := pull16 s
  finish 6 (r.2.setPc (r.1 + 1))

/-- `10` BPL label (44_control R214; 2 cycles). -/
def execBpl (b1 : Byte) (s : State) : Result :=
  branchIf (!s.p.n) b1 s

/-- `30` BMI label (44_control R215; 2 cycles). -/
def execBmi (b1 : Byte) (s : State) : Result :=
  branchIf s.p.n b1 s

/-- `50` BVC label (44_control R216; 2 cycles). -/
def execBvc (b1 : Byte) (s : State) : Result :=
  branchIf (!s.p.v) b1 s

/-- `70` BVS label (44_control R217; 2 cycles). -/
def execBvs (b1 : Byte) (s : State) : Result :=
  branchIf s.p.v b1 s

/-- `90` BCC label (44_control R218; 2 cycles). -/
def execBcc (b1 : Byte) (s : State) : Result :=
  branchIf (!s.p.c) b1 s

/-- `B0` BCS label (44_control R219; 2 cycles). -/
def execBcs (b1 : Byte) (s : State) : Result :=
  branchIf s.p.c b1 s

/-- `D0` BNE label (44_control R220; 2 cycles). -/
def execBne (b1 : Byte) (s : State) : Result :=
  branchIf (!s.p.z) b1 s

/-- `F0` BEQ label (44_control R221; 2 cycles). -/
def execBeq (b1 : Byte) (s : State) : Result :=
  branchIf s.p.z b1 s

end Sys2Proof.Machine
end

