-- ==== Sys2Proof/Machine/LoadStore.lean ====
section
/-! DEFINITION. The load and store instructions LDA, LDX, LDY, STA, STX, STY (40_load_store R130 to R136). Each is one of the shapes of
Machine/Operands.lean with its addressing mode and base cycles. -/

namespace Sys2Proof.Machine

/-- `A1` LDA ($nn,X) (40_load_store R131; 6 cycles). -/
def execLdaIndx (b1 : Byte) (s : State) : Result :=
  loadRegister State.setA (.indx b1) 6 s

/-- `A5` LDA $nn (40_load_store R131; 3 cycles). -/
def execLdaZp (b1 : Byte) (s : State) : Result :=
  loadRegister State.setA (.zp b1) 3 s

/-- `A9` LDA #$nn (40_load_store R131; 2 cycles). -/
def execLdaImm (b1 : Byte) (s : State) : Result :=
  loadRegister State.setA (.imm b1) 2 s

/-- `AD` LDA $nnnn (40_load_store R131; 4 cycles). -/
def execLdaAbs (w : Word) (s : State) : Result :=
  loadRegister State.setA (.abs w) 4 s

/-- `B1` LDA ($nn),Y (40_load_store R131; 5 cycles, one more on a page crossing). -/
def execLdaIndy (b1 : Byte) (s : State) : Result :=
  loadRegister State.setA (.indy b1) 5 s

/-- `B5` LDA $nn,X (40_load_store R131; 4 cycles). -/
def execLdaZpx (b1 : Byte) (s : State) : Result :=
  loadRegister State.setA (.zpx b1) 4 s

/-- `B9` LDA $nnnn,Y (40_load_store R131; 4 cycles, one more on a page crossing). -/
def execLdaAbsy (w : Word) (s : State) : Result :=
  loadRegister State.setA (.absy w) 4 s

/-- `BD` LDA $nnnn,X (40_load_store R131; 4 cycles, one more on a page crossing). -/
def execLdaAbsx (w : Word) (s : State) : Result :=
  loadRegister State.setA (.absx w) 4 s

/-- `A2` LDX #$nn (40_load_store R132; 2 cycles). -/
def execLdxImm (b1 : Byte) (s : State) : Result :=
  loadRegister State.setX (.imm b1) 2 s

/-- `A6` LDX $nn (40_load_store R132; 3 cycles). -/
def execLdxZp (b1 : Byte) (s : State) : Result :=
  loadRegister State.setX (.zp b1) 3 s

/-- `AE` LDX $nnnn (40_load_store R132; 4 cycles). -/
def execLdxAbs (w : Word) (s : State) : Result :=
  loadRegister State.setX (.abs w) 4 s

/-- `B6` LDX $nn,Y (40_load_store R132; 4 cycles). -/
def execLdxZpy (b1 : Byte) (s : State) : Result :=
  loadRegister State.setX (.zpy b1) 4 s

/-- `BE` LDX $nnnn,Y (40_load_store R132; 4 cycles, one more on a page crossing). -/
def execLdxAbsy (w : Word) (s : State) : Result :=
  loadRegister State.setX (.absy w) 4 s

/-- `A0` LDY #$nn (40_load_store R133; 2 cycles). -/
def execLdyImm (b1 : Byte) (s : State) : Result :=
  loadRegister State.setY (.imm b1) 2 s

/-- `A4` LDY $nn (40_load_store R133; 3 cycles). -/
def execLdyZp (b1 : Byte) (s : State) : Result :=
  loadRegister State.setY (.zp b1) 3 s

/-- `AC` LDY $nnnn (40_load_store R133; 4 cycles). -/
def execLdyAbs (w : Word) (s : State) : Result :=
  loadRegister State.setY (.abs w) 4 s

/-- `B4` LDY $nn,X (40_load_store R133; 4 cycles). -/
def execLdyZpx (b1 : Byte) (s : State) : Result :=
  loadRegister State.setY (.zpx b1) 4 s

/-- `BC` LDY $nnnn,X (40_load_store R133; 4 cycles, one more on a page crossing). -/
def execLdyAbsx (w : Word) (s : State) : Result :=
  loadRegister State.setY (.absx w) 4 s

/-- `81` STA ($nn,X) (40_load_store R134; 6 cycles). -/
def execStaIndx (b1 : Byte) (s : State) : Result :=
  storeValue s.a (.indx b1) 6 s

/-- `85` STA $nn (40_load_store R134; 3 cycles). -/
def execStaZp (b1 : Byte) (s : State) : Result :=
  storeValue s.a (.zp b1) 3 s

/-- `8D` STA $nnnn (40_load_store R134; 4 cycles). -/
def execStaAbs (w : Word) (s : State) : Result :=
  storeValue s.a (.abs w) 4 s

/-- `91` STA ($nn),Y (40_load_store R134; 6 cycles). -/
def execStaIndy (b1 : Byte) (s : State) : Result :=
  storeValue s.a (.indy b1) 6 s

/-- `95` STA $nn,X (40_load_store R134; 4 cycles). -/
def execStaZpx (b1 : Byte) (s : State) : Result :=
  storeValue s.a (.zpx b1) 4 s

/-- `99` STA $nnnn,Y (40_load_store R134; 5 cycles). -/
def execStaAbsy (w : Word) (s : State) : Result :=
  storeValue s.a (.absy w) 5 s

/-- `9D` STA $nnnn,X (40_load_store R134; 5 cycles). -/
def execStaAbsx (w : Word) (s : State) : Result :=
  storeValue s.a (.absx w) 5 s

/-- `86` STX $nn (40_load_store R135; 3 cycles). -/
def execStxZp (b1 : Byte) (s : State) : Result :=
  storeValue s.x (.zp b1) 3 s

/-- `8E` STX $nnnn (40_load_store R135; 4 cycles). -/
def execStxAbs (w : Word) (s : State) : Result :=
  storeValue s.x (.abs w) 4 s

/-- `96` STX $nn,Y (40_load_store R135; 4 cycles). -/
def execStxZpy (b1 : Byte) (s : State) : Result :=
  storeValue s.x (.zpy b1) 4 s

/-- `84` STY $nn (40_load_store R136; 3 cycles). -/
def execStyZp (b1 : Byte) (s : State) : Result :=
  storeValue s.y (.zp b1) 3 s

/-- `8C` STY $nnnn (40_load_store R136; 4 cycles). -/
def execStyAbs (w : Word) (s : State) : Result :=
  storeValue s.y (.abs w) 4 s

/-- `94` STY $nn,X (40_load_store R136; 4 cycles). -/
def execStyZpx (b1 : Byte) (s : State) : Result :=
  storeValue s.y (.zpx b1) 4 s

end Sys2Proof.Machine
end

