-- ==== Sys2Proof/Machine/Shift.lean ====
section
/-! DEFINITION. Shifts, rotates, increments and decrements (43_shift_incdec R190 to R200). -/

namespace Sys2Proof.Machine

/-- `06` ASL $nn (43_shift_incdec R190; 5 cycles). -/
def execAslZp (b1 : Byte) (s : State) : Result :=
  modifyMemory aslValue (.zp b1) 5 s

/-- `0A` ASL A (43_shift_incdec R190; 2 cycles). -/
def execAslAcc (s : State) : Result :=
  modifyAccumulator aslValue 2 s

/-- `0E` ASL $nnnn (43_shift_incdec R190; 6 cycles). -/
def execAslAbs (w : Word) (s : State) : Result :=
  modifyMemory aslValue (.abs w) 6 s

/-- `16` ASL $nn,X (43_shift_incdec R190; 6 cycles). -/
def execAslZpx (b1 : Byte) (s : State) : Result :=
  modifyMemory aslValue (.zpx b1) 6 s

/-- `1E` ASL $nnnn,X (43_shift_incdec R190; 7 cycles). -/
def execAslAbsx (w : Word) (s : State) : Result :=
  modifyMemory aslValue (.absx w) 7 s

/-- `46` LSR $nn (43_shift_incdec R191; 5 cycles). -/
def execLsrZp (b1 : Byte) (s : State) : Result :=
  modifyMemory lsrValue (.zp b1) 5 s

/-- `4A` LSR A (43_shift_incdec R191; 2 cycles). -/
def execLsrAcc (s : State) : Result :=
  modifyAccumulator lsrValue 2 s

/-- `4E` LSR $nnnn (43_shift_incdec R191; 6 cycles). -/
def execLsrAbs (w : Word) (s : State) : Result :=
  modifyMemory lsrValue (.abs w) 6 s

/-- `56` LSR $nn,X (43_shift_incdec R191; 6 cycles). -/
def execLsrZpx (b1 : Byte) (s : State) : Result :=
  modifyMemory lsrValue (.zpx b1) 6 s

/-- `5E` LSR $nnnn,X (43_shift_incdec R191; 7 cycles). -/
def execLsrAbsx (w : Word) (s : State) : Result :=
  modifyMemory lsrValue (.absx w) 7 s

/-- `26` ROL $nn (43_shift_incdec R192; 5 cycles). -/
def execRolZp (b1 : Byte) (s : State) : Result :=
  modifyMemory rolValue (.zp b1) 5 s

/-- `2A` ROL A (43_shift_incdec R192; 2 cycles). -/
def execRolAcc (s : State) : Result :=
  modifyAccumulator rolValue 2 s

/-- `2E` ROL $nnnn (43_shift_incdec R192; 6 cycles). -/
def execRolAbs (w : Word) (s : State) : Result :=
  modifyMemory rolValue (.abs w) 6 s

/-- `36` ROL $nn,X (43_shift_incdec R192; 6 cycles). -/
def execRolZpx (b1 : Byte) (s : State) : Result :=
  modifyMemory rolValue (.zpx b1) 6 s

/-- `3E` ROL $nnnn,X (43_shift_incdec R192; 7 cycles). -/
def execRolAbsx (w : Word) (s : State) : Result :=
  modifyMemory rolValue (.absx w) 7 s

/-- `66` ROR $nn (43_shift_incdec R193; 5 cycles). -/
def execRorZp (b1 : Byte) (s : State) : Result :=
  modifyMemory rorValue (.zp b1) 5 s

/-- `6A` ROR A (43_shift_incdec R193; 2 cycles). -/
def execRorAcc (s : State) : Result :=
  modifyAccumulator rorValue 2 s

/-- `6E` ROR $nnnn (43_shift_incdec R193; 6 cycles). -/
def execRorAbs (w : Word) (s : State) : Result :=
  modifyMemory rorValue (.abs w) 6 s

/-- `76` ROR $nn,X (43_shift_incdec R193; 6 cycles). -/
def execRorZpx (b1 : Byte) (s : State) : Result :=
  modifyMemory rorValue (.zpx b1) 6 s

/-- `7E` ROR $nnnn,X (43_shift_incdec R193; 7 cycles). -/
def execRorAbsx (w : Word) (s : State) : Result :=
  modifyMemory rorValue (.absx w) 7 s

/-- `E6` INC $nn (43_shift_incdec R194; 5 cycles). -/
def execIncZp (b1 : Byte) (s : State) : Result :=
  modifyMemory incValue (.zp b1) 5 s

/-- `EE` INC $nnnn (43_shift_incdec R194; 6 cycles). -/
def execIncAbs (w : Word) (s : State) : Result :=
  modifyMemory incValue (.abs w) 6 s

/-- `F6` INC $nn,X (43_shift_incdec R194; 6 cycles). -/
def execIncZpx (b1 : Byte) (s : State) : Result :=
  modifyMemory incValue (.zpx b1) 6 s

/-- `FE` INC $nnnn,X (43_shift_incdec R194; 7 cycles). -/
def execIncAbsx (w : Word) (s : State) : Result :=
  modifyMemory incValue (.absx w) 7 s

/-- `C6` DEC $nn (43_shift_incdec R195; 5 cycles). -/
def execDecZp (b1 : Byte) (s : State) : Result :=
  modifyMemory decValue (.zp b1) 5 s

/-- `CE` DEC $nnnn (43_shift_incdec R195; 6 cycles). -/
def execDecAbs (w : Word) (s : State) : Result :=
  modifyMemory decValue (.abs w) 6 s

/-- `D6` DEC $nn,X (43_shift_incdec R195; 6 cycles). -/
def execDecZpx (b1 : Byte) (s : State) : Result :=
  modifyMemory decValue (.zpx b1) 6 s

/-- `DE` DEC $nnnn,X (43_shift_incdec R195; 7 cycles). -/
def execDecAbsx (w : Word) (s : State) : Result :=
  modifyMemory decValue (.absx w) 7 s

/-- `E8` INX (43_shift_incdec R196; 2 cycles). -/
def execInx (s : State) : Result :=
  moveRegister State.setX (s.x + 1) 2 s

/-- `C8` INY (43_shift_incdec R197; 2 cycles). -/
def execIny (s : State) : Result :=
  moveRegister State.setY (s.y + 1) 2 s

/-- `CA` DEX (43_shift_incdec R198; 2 cycles). -/
def execDex (s : State) : Result :=
  moveRegister State.setX (s.x - 1) 2 s

/-- `88` DEY (43_shift_incdec R199; 2 cycles). -/
def execDey (s : State) : Result :=
  moveRegister State.setY (s.y - 1) 2 s

end Sys2Proof.Machine
end

