-- ==== Sys2Proof/Machine/System.lean ====
section
/-! DEFINITION. BRK, RTI, the flag instructions and NOP (45_system_flags R230 to R239). -/

namespace Sys2Proof.Machine

/-- `00` BRK (45_system_flags R230; 7 cycles). -/
def execBrk (s : State) : Result :=
  finish 7 (takeException (s.pc + 1) true irqVector s)

/-- `40` RTI (45_system_flags R231; 6 cycles). -/
def execRti (s : State) : Result :=
  finish 6 (returnFromException s)

/-- `18` CLC (45_system_flags R232; 2 cycles). -/
def execClc (s : State) : Result :=
  finish 2 (s.setP { s.p with c := false })

/-- `38` SEC (45_system_flags R233; 2 cycles). -/
def execSec (s : State) : Result :=
  finish 2 (s.setP { s.p with c := true })

/-- `58` CLI (45_system_flags R234; 2 cycles). -/
def execCli (s : State) : Result :=
  finish 2 (s.setP { s.p with i := false })

/-- `78` SEI (45_system_flags R235; 2 cycles). -/
def execSei (s : State) : Result :=
  finish 2 (s.setP { s.p with i := true })

/-- `B8` CLV (45_system_flags R236; 2 cycles). -/
def execClv (s : State) : Result :=
  finish 2 (s.setP { s.p with v := false })

/-- `D8` CLD (45_system_flags R237; 2 cycles). -/
def execCld (s : State) : Result :=
  finish 2 (s.setP { s.p with d := false })

/-- `F8` SED (45_system_flags R238; 2 cycles). -/
def execSed (s : State) : Result :=
  finish 2 (s.setP { s.p with d := true })

/-- `EA` NOP (45_system_flags R239; 2 cycles). -/
def execNop (s : State) : Result :=
  finish 2 s

end Sys2Proof.Machine
end

