-- ==== Sys2Proof/Machine/Transfer.lean ====
section
/-! DEFINITION. The register transfers and the stack instructions (41_transfer_stack R150 to R159). -/

namespace Sys2Proof.Machine

/-- `AA` TAX (41_transfer_stack R150; 2 cycles). -/
def execTax (s : State) : Result :=
  moveRegister State.setX s.a 2 s

/-- `A8` TAY (41_transfer_stack R151; 2 cycles). -/
def execTay (s : State) : Result :=
  moveRegister State.setY s.a 2 s

/-- `8A` TXA (41_transfer_stack R152; 2 cycles). -/
def execTxa (s : State) : Result :=
  moveRegister State.setA s.x 2 s

/-- `98` TYA (41_transfer_stack R153; 2 cycles). -/
def execTya (s : State) : Result :=
  moveRegister State.setA s.y 2 s

/-- `BA` TSX (41_transfer_stack R154; 2 cycles). -/
def execTsx (s : State) : Result :=
  moveRegister State.setX s.sp 2 s

/-- `9A` TXS (41_transfer_stack R155; 2 cycles). -/
def execTxs (s : State) : Result :=
  finish 2 (s.setSp s.x)

/-- `48` PHA (41_transfer_stack R156; 3 cycles). -/
def execPha (s : State) : Result :=
  finish 3 (push s.a s)

/-- `08` PHP (41_transfer_stack R157; 3 cycles). -/
def execPhp (s : State) : Result :=
  finish 3 (push (s.p.image true) s)

/-- `68` PLA (41_transfer_stack R158; 4 cycles). -/
def execPla (s : State) : Result :=
  let r := pull s
  moveRegister State.setA r.1 4 r.2

/-- `28` PLP (41_transfer_stack R159; 4 cycles). -/
def execPlp (s : State) : Result :=
  let r := pull s
  finish 4 (r.2.setP (Flags.ofByte r.1))

end Sys2Proof.Machine
end

