-- ==== Sys2Proof/Machine/Undocumented.lean ====
section
/-! DEFINITION. The 105 undocumented opcodes, NOP-equivalents (45_system_flags R240; 30_encoding R122). Operand bytes are fetched and discarded. -/

namespace Sys2Proof.Machine

/-- `NOP*` of shape `imp` (45_system_flags R240; 2 cycles). -/
def execNopStarImp (op : Byte) (s : State) : Result :=
  nopEquivalent op 2 s

/-- `NOP*` of shape `indx` (45_system_flags R240; 6 cycles). -/
def execNopStarIndx (op : Byte) (_b1 : Byte) (s : State) : Result :=
  nopEquivalent op 6 s

/-- `NOP*` of shape `zp` (45_system_flags R240; 3 cycles). -/
def execNopStarZp (op : Byte) (_b1 : Byte) (s : State) : Result :=
  nopEquivalent op 3 s

/-- `NOP*` of shape `imm` (45_system_flags R240; 2 cycles). -/
def execNopStarImm (op : Byte) (_b1 : Byte) (s : State) : Result :=
  nopEquivalent op 2 s

/-- `NOP*` of shape `abs` (45_system_flags R240; 4 cycles). -/
def execNopStarAbs (op : Byte) (_w : Word) (s : State) : Result :=
  nopEquivalent op 4 s

/-- `NOP*` of shape `indy` (45_system_flags R240; 5 cycles). -/
def execNopStarIndy (op : Byte) (_b1 : Byte) (s : State) : Result :=
  nopEquivalent op 5 s

/-- `NOP*` of shape `zpx` (45_system_flags R240; 4 cycles). -/
def execNopStarZpx (op : Byte) (_b1 : Byte) (s : State) : Result :=
  nopEquivalent op 4 s

/-- `NOP*` of shape `absy` (45_system_flags R240; 4 cycles). -/
def execNopStarAbsy (op : Byte) (_w : Word) (s : State) : Result :=
  nopEquivalent op 4 s

/-- `NOP*` of shape `absx` (45_system_flags R240; 4 cycles). -/
def execNopStarAbsx (op : Byte) (_w : Word) (s : State) : Result :=
  nopEquivalent op 4 s

/-- `NOP*` of shape `zpy` (45_system_flags R240; 4 cycles). -/
def execNopStarZpy (op : Byte) (_b1 : Byte) (s : State) : Result :=
  nopEquivalent op 4 s

end Sys2Proof.Machine
end

