-- ==== Sys2Proof/Machine/Cpu.lean ====
section
/-! DEFINITION. One CPU step, `emulate()` (53_orchestrator R477): a stall step (R479), a reset or an interrupt entry
(60_exceptions R254, R256), or the fetch, decoding and execution of one instruction (30_encoding R102). -/

namespace Sys2Proof.Machine

/-- The stall step: at most `STALL_CHUNK` cycles; nothing else changes (53_orchestrator R479). -/
def stallStep (s : State) : State :=
  let c := min s.cyclesToHalt s.cfg.stallChunk
  { s with cyclesToHalt := s.cyclesToHalt - c, stepCycles := c }

/-- `raise Interrupt(k)` for NMI and IRQ: PC and status with B = 0 are pushed, I is set, PC from the vector; 7 cycles
(60_exceptions R256). -/
def interruptEntry (vector : Word) (s : State) : State :=
  (takeException s.pc false vector s).setCycles 7

/-- A marked reset performed at a step boundary: 0 cycles (60_exceptions R254; 53_orchestrator R477). -/
def resetStep (s : State) : State := (performReset s).setCycles 0

/-- What the sampling at a step boundary finds (60_exceptions R254, R255). -/
inductive Sampled where
  | reset
  | nmi
  | irq
  | maskedIrq
  | nothing
  deriving DecidableEq, Repr

/-- The sampling, in the order RESET, NMI, IRQ (60_exceptions R254, R255). -/
def sample (s : State) : Sampled :=
  if s.resetMark then .reset
  else if s.nmiPending then .nmi
  else if s.irqPending then (if s.p.i then .maskedIrq else .irq)
  else .nothing

/-- A masked IRQ request is held or dropped by `MASKED_IRQ_POLICY` (60_exceptions R254). -/
def maskIrq (s : State) : State :=
  match s.cfg.maskedIrqPolicy with
  | .hold => s
  | .drop => { s with irqPending := false }

/-- The instruction at PC, and the state after its bytes are read and PC is advanced past it, before anything is done
(30_encoding R102). Exactly the bytes of its length are read, in ascending order. -/
def fetch (s : State) : Instr × State :=
  let f := memRead s.pc s
  match opLength f.1 with
  | 1 => (buildInstr f.1 0 0, f.2.setPc (s.pc + 1))
  | 2 =>
    let g := memRead (s.pc + 1) f.2
    (buildInstr f.1 g.1 0, g.2.setPc (s.pc + 2))
  | _ =>
    let g := memRead (s.pc + 1) f.2
    let h := memRead (s.pc + 2) g.2
    (buildInstr f.1 g.1 h.1, h.2.setPc (s.pc + 3))

/-- Fetch one instruction and execute it (30_encoding R102). -/
def instructionStep (s : State) : Result :=
  let f := fetch s
  exec f.1 f.2

/-- `emulate()`; the cycles it returns are in `stepCycles` (53_orchestrator R477). -/
def emulate (s : State) : Result :=
  if 0 < s.cyclesToHalt then .next (stallStep s)
  else
    match sample s with
    | .reset     => .next (resetStep s)
    | .nmi       => .next (interruptEntry nmiVector { s with nmiPending := false })
    | .irq       => .next (interruptEntry irqVector { s with irqPending := false })
    | .maskedIrq => instructionStep (maskIrq s)
    | .nothing   => instructionStep s

end Sys2Proof.Machine
end

