-- ==== Sys2Proof/Machine/Render.lean ====
section
/-! DEFINITION. The rasterizer and the scanline and dot state machine (50_ppu R302 to R309, R330 to R343). -/

namespace Sys2Proof.Machine

/-- One sprite of OAM and its number (50_ppu R317). -/
structure Sprite where
  index : Nat
  y     : Byte
  tile  : Byte
  attr  : Byte
  x     : Byte
  deriving DecidableEq, Repr

/-- An opaque sprite pixel: colour number 1 to 3, palette 0 to 3, and whether it is behind the background (50_ppu R337). -/
structure SpritePixel where
  colour  : Nat
  palette : Nat
  behind  : Bool
  deriving DecidableEq, Repr

/-- A background pixel: colour number 0 to 3 and palette 0 to 3 (50_ppu R332). -/
structure BackgroundPixel where
  colour  : Nat
  palette : Nat
  deriving DecidableEq, Repr

/-- Sprite `i` of OAM (50_ppu R317). -/
def oamSprite (u : Ppu) (i : Nat) : Sprite :=
  ⟨i, Store.read u.oam (4 * i), Store.read u.oam (4 * i + 1), Store.read u.oam (4 * i + 2), Store.read u.oam (4 * i + 3)⟩

/-- Sprite height, 8 or 16 (50_ppu R320, R336). -/
def Ppu.spriteHeight (u : Ppu) : Nat := if u.ctrl.getLsbD 5 then 16 else 8

/-- The sprite is in range on picture line `y`, in integers without wrap (50_ppu R336). -/
def Sprite.inRange (h y : Nat) (sp : Sprite) : Bool :=
  decide (sp.y.toNat + 1 ≤ y) && decide (y < sp.y.toNat + 1 + h)

/-- All sprites in range on line `y`, in OAM order (50_ppu R336). -/
def Ppu.spritesInRange (u : Ppu) (y : Nat) : List Sprite :=
  ((List.range 64).map (oamSprite u)).filter (Sprite.inRange u.spriteHeight y)

/-- The two-bit colour number at bit `k` of the pattern row at `pa` (50_ppu R316). -/
def patternColour (s : State) (pa k : Nat) : Nat :=
  ((ppuRead s (pa + 8)).getLsbD k).toNat * 2 + ((ppuRead s pa).getLsbD k).toNat

/-- The background pixel at column `x`, clipped (50_ppu R332). -/
def backgroundPixel (s : State) (x : Nat) : BackgroundPixel :=
  let u := s.ppu
  let px := u.fineX.toNat + x
  let cx0 := (u.v.extractLsb' 0 5).toNat + px / 8
  let ntx := ((u.v.getLsbD 10) ^^ decide (32 ≤ cx0)).toNat
  let cx := cx0 % 32
  let cy := (u.v.extractLsb' 5 5).toNat
  let nty := (u.v.getLsbD 11).toNat
  let fy := (u.v.extractLsb' 12 3).toNat
  let table := nty * 0x800 + ntx * 0x400
  let tile := (ppuRead s (0x2000 + table + cy * 32 + cx)).toNat
  let at8 := (ppuRead s (0x23C0 + table + cy / 4 * 8 + cx / 4)).toNat
  let sh := cy % 4 / 2 * 4 + cx % 4 / 2 * 2
  let pa := (u.ctrl.getLsbD 4).toNat * 0x1000 + tile * 16 + fy
  let hidden := !u.mask.getLsbD 3 || (decide (x < 8) && !u.mask.getLsbD 1)
  ⟨if hidden then 0 else patternColour s pa (7 - px % 8), at8 / 2 ^ sh % 4⟩

/-- The colour number sprite `sp` alone has at column `x` of line `y`, before clipping; 0 where the sprite is not
(50_ppu R337). -/
def spriteColour (s : State) (y x : Nat) (sp : Sprite) : Nat :=
  let u := s.ppu
  let row := y - (sp.y.toNat + 1)
  let col := x - sp.x.toNat
  let c := if sp.attr.getLsbD 6 then col else 7 - col
  let r := if sp.attr.getLsbD 7 then u.spriteHeight - 1 - row else row
  let pa :=
    if u.ctrl.getLsbD 5 then
      (sp.tile.getLsbD 0).toNat * 0x1000 + ((sp.tile &&& 0xFE#8).toNat + (if 8 ≤ r then 1 else 0)) * 16 + r % 8
    else (u.ctrl.getLsbD 3).toNat * 0x1000 + sp.tile.toNat * 16 + r
  if sp.x.toNat ≤ x ∧ x < sp.x.toNat + 8 then patternColour s pa c else 0

/-- Sprites are not shown at column `x` (50_ppu R337). -/
def Ppu.spritesHidden (u : Ppu) (x : Nat) : Bool :=
  !u.mask.getLsbD 4 || (decide (x < 8) && !u.mask.getLsbD 2)

/-- The first opaque sprite pixel in the order of the line's sprites (50_ppu R337). -/
def firstOpaque (s : State) (y x : Nat) : List Sprite → Option SpritePixel
  | [] => none
  | sp :: rest =>
    let c := spriteColour s y x sp
    if c = 0 then firstOpaque s y x rest
    else some ⟨c, (sp.attr.extractLsb' 0 2).toNat, sp.attr.getLsbD 5⟩

/-- The sprite pixel at column `x`, clipped (50_ppu R337). -/
def spritePixel (s : State) (sprites : List Sprite) (y x : Nat) : Option SpritePixel :=
  if s.ppu.spritesHidden x then none else firstOpaque s y x sprites

/-- The palette RAM index the priority multiplexer chooses (50_ppu R338). -/
def muxIndex (b : BackgroundPixel) : Option SpritePixel → Nat
  | none => if b.colour = 0 then 0 else b.palette * 4 + b.colour
  | some p =>
    if b.colour = 0 then 0x10 + p.palette * 4 + p.colour
    else if p.behind then b.palette * 4 + b.colour
    else 0x10 + p.palette * 4 + p.colour

/-- `Colour(p)`: greyscale, palette, emphasis; the alpha byte is opaque whatever `EMPHASIS` is (50_ppu R339, R350; log 5,
log 6). -/
def colour (s : State) (p : BitVec 6) : Colour :=
  let m := s.ppu.mask
  let word : Colour := 0xFF#8 ++ Config.paletteRgb (if m.getLsbD 0 then p &&& 0x30#6 else p)
  match s.cfg.emphasis with
  | .identity => word
  | .host     => 0xFF#8 ++ Config.hostEmphasis word (m.extractLsb' 5 3)

/-- One pixel of a rendered line (50_ppu R330). -/
def pixel (s : State) (sprites : List Sprite) (y x : Nat) : Colour :=
  colour s (Store.read s.ppu.paletteRam (muxIndex (backgroundPixel s x) (spritePixel s sprites y x)))

/-- Columns 0 to 254 at which background and sprite 0 alone are both opaque after clipping (50_ppu R341). -/
def sprite0Overlaps (s : State) (y : Nat) (sp : Sprite) (x : Nat) : Bool :=
  (backgroundPixel s x).colour != 0 && !s.ppu.spritesHidden x && spriteColour s y x sp != 0

/-- The column of the sprite-0 hit on line `y`, if there is one to record (50_ppu R341). -/
def sprite0Column (s : State) (sprites : List Sprite) (y : Nat) : Option Nat :=
  if s.ppu.spr0HitX = none ∧ s.ppu.spr0Hit = false ∧ s.ppu.mask.getLsbD 3 ∧ s.ppu.mask.getLsbD 4 then
    match sprites.find? fun sp => sp.index == 0 with
    | none    => none
    | some sp => (List.range 255).find? (sprite0Overlaps s y sp)
  else none

/-- Record a sprite-0 hit position (50_ppu R341). -/
def Ppu.recordSprite0 (u : Ppu) (y : Nat) : Option Nat → Ppu
  | none   => u
  | some x => { u with spr0HitX := some x, spr0HitY := some y }

/-- Horizontal reload of `v` before a line (50_ppu R330). -/
def horizontalReload (v t : BitVec 15) : BitVec 15 :=
  v.extractLsb' 11 4 ++ t.extractLsb' 10 1 ++ v.extractLsb' 5 5 ++ t.extractLsb' 0 5

/-- Vertical increment of `v` after a line (50_ppu R333). -/
def verticalIncrement (v : BitVec 15) : BitVec 15 :=
  let fy := v.extractLsb' 12 3
  let nt := v.extractLsb' 10 2
  let cy := v.extractLsb' 5 5
  let cx := v.extractLsb' 0 5
  if fy.toNat < 7 then (fy + 1) ++ nt ++ cy ++ cx
  else if cy.toNat = 29 then 0#3 ++ (nt ^^^ 2#2) ++ 0#5 ++ cx
  else if cy.toNat = 31 then 0#3 ++ nt ++ 0#5 ++ cx
  else 0#3 ++ nt ++ (cy + 1) ++ cx

/-- Put a row in the frame buffer, rows rising by number (log 16). -/
def setRow : List (Nat × List Colour) → Nat → List Colour → List (Nat × List Colour)
  | [], y, row => [(y, row)]
  | (k, r) :: rest, y, row =>
    if y < k then (y, row) :: (k, r) :: rest
    else if y = k then (y, row) :: rest
    else (k, r) :: setRow rest y row

/-- A word of the frame buffer: `$FF000000` where no row was rendered since reset (50_ppu R300, R301). -/
def frameWord (u : Ppu) (y x : Nat) : Colour :=
  match u.frameRows.find? fun e => e.1 == y with
  | none   => 0xFF000000#32
  | some e => e.2.getD x 0xFF000000#32

/-- A finished row: the frame buffer and `lastRenderedLine` (50_ppu R330). -/
def storeRow (y : Nat) (row : List Colour) (s : State) : State :=
  { s with ppu := { s.ppu with frameRows := setRow s.ppu.frameRows y row, lastRenderedLine := Int.ofNat y } }

/-- The row of a line with rendering enabled, given `v` after the horizontal reload (50_ppu R330). -/
def renderedRow (s : State) (y : Nat) : List Colour :=
  (List.range 256).map (pixel s ((s.ppu.spritesInRange y).take 8) y)

/-- The row of a line with rendering disabled: the backdrop (50_ppu R331). -/
def backdropRow (s : State) : List Colour :=
  List.replicate 256 (colour s (Store.read s.ppu.paletteRam 0))

/-- The PPU registers after rendering line `y` from state `s`, whose `v` is reloaded: overflow flag, sprite-0 position,
vertical increment (50_ppu R330, R333, R341, R342). -/
def renderedPpu (s : State) (y : Nat) : Ppu :=
  let inRange := s.ppu.spritesInRange y
  let u := { s.ppu with sprOverflow := s.ppu.sprOverflow || decide (8 < inRange.length),
                        v := verticalIncrement s.ppu.v }
  u.recordSprite0 y (sprite0Column s (inRange.take 8) y)

/-- `RenderLine(y)` (50_ppu R330, R331). -/
def renderLine (y : Nat) (s : State) : State :=
  if s.ppu.rendering then
    let s1 := { s with ppu := { s.ppu with v := horizontalReload s.ppu.v s.ppu.t } }
    storeRow y (renderedRow s1 y) { s1 with ppu := renderedPpu s1 y }
  else storeRow y (backdropRow s) s

/-- The mapper's scanline clock, only with rendering enabled (50_ppu R305, R343). -/
def scanlineClock (s : State) : State := if s.ppu.rendering then clockIrqCounter s else s

/-- The vertical reload at the end of the pre-render scanline (50_ppu R334). -/
def verticalReload (s : State) : State :=
  if s.ppu.rendering then { s with ppu := { s.ppu with v := s.ppu.t } } else s

/-- End of scanline 19: the status flags and the sprite-0 position are cleared; the odd-frame skip (50_ppu R305, R309). -/
def enterPreRender (skip : Bool) (u : Ppu) : Ppu :=
  { u with vblank := false, spr0Hit := false, sprOverflow := false, spr0HitX := none, spr0HitY := none,
           curX := if skip && u.oddFrame && u.mask.getLsbD 3 then 1 else u.curX }

/-- End of the last scanline: VBlank flag, and the trigger of the NMI debounce (50_ppu R305, R306). -/
def enterVBlank (delay : Nat) (u : Ppu) : Ppu :=
  { u with vblank := true, requestEndFrame := true, nmiCounter := delay, scanline := 0 }

/-- `EndScanline()`; `curX` is already 0. The last scanline is number `SCANLINES_PER_FRAME - 1` (50_ppu R305; log 21). -/
def endScanline (s : State) : State :=
  let l := s.ppu.scanline
  if l + 1 = s.cfg.scanlinesPerFrame then { s with ppu := enterVBlank s.cfg.nmiDelayDots s.ppu }
  else
    let s1 :=
      if l = 19 then { s with ppu := enterPreRender s.cfg.oddFrameSkip s.ppu }
      else if l = 20 then renderLine 0 (scanlineClock (verticalReload s))
      else if 21 ≤ l ∧ l ≤ 259 then renderLine (l - 20) (scanlineClock s)
      else s
    { s1 with ppu := { s1.ppu with scanline := l + 1 } }

/-- The sprite-0 hit flag at a dot (50_ppu R303 part 1, R308). -/
def Ppu.sprite0Dot (u : Ppu) : Ppu :=
  if u.spr0HitX = some u.curX ∧ u.mask.getLsbD 4 ∧ u.spr0HitY.map (· + 21) = some u.scanline then
    { u with spr0Hit := true }
  else u

/-- `StartVBlank()`: an NMI request when it is enabled at this moment (50_ppu R307). -/
def startVBlank (s : State) : State :=
  if s.ppu.ctrl.getLsbD 7 then requestIrq .nmi s else s

/-- Part 3 of a dot: the next dot, and the end of the scanline (50_ppu R303). -/
def advanceDot (s : State) : State :=
  if s.ppu.curX + 1 = 341 then endScanline { s with ppu := { s.ppu with curX := 0 } }
  else { s with ppu := { s.ppu with curX := s.ppu.curX + 1 } }

/-- `PpuDot()`: one dot; true at the end of the frame (50_ppu R303, R306). -/
def ppuDot (s : State) : Bool × State :=
  let s1 := { s with ppu := s.ppu.sprite0Dot }
  if s1.ppu.requestEndFrame then
    let s2 := { s1 with ppu := { s1.ppu with nmiCounter := s1.ppu.nmiCounter - 1 } }
    if s2.ppu.nmiCounter = 0 then
      (true, startVBlank { s2 with ppu := { s2.ppu with requestEndFrame := false } })
    else (false, advanceDot s2)
  else (false, advanceDot s1)

/-- `startFrame()` (50_ppu R304). -/
def Ppu.startFrame (u : Ppu) : Ppu :=
  { u with scanline := 0, curX := 0, spr0HitX := none, spr0HitY := none, lastRenderedLine := -1, oddFrame := !u.oddFrame }

/-- `triggerRendering()`: lines are rendered eagerly, so it is the identity (50_ppu R348). -/
def triggerRendering (s : State) : State := s

/-- Rows of the frame buffer that hold this frame's pixels (50_ppu R349). -/
def validLines (s : State) : Nat := (s.ppu.lastRenderedLine + 1).toNat

end Sys2Proof.Machine
end

