-- ==== Sys2Proof/Machine/Frame.lean ====
section
/-! DEFINITION. The frame loop of the orchestrator, one turn at a time (53_orchestrator R475 to R482; log 9). -/

namespace Sys2Proof.Machine

/-- The registers of the mapper variant as numbers: MMC1 shift register, count, control, CHR banks, PRG bank; MMC3 bank select,
protection, latch, counter, reload, enable, then the eight slots (52_mappers R430, R445). -/
def mapperRegisters : MapperRegs → List Nat
  | .nrom   => []
  | .mmc1 r => [r.shiftReg.toNat, r.shiftCount, r.control.toNat, r.chrBank0.toNat, r.chrBank1.toNat, r.prgBank.toNat]
  | .mmc3 r =>
    [r.bankSelect.toNat, r.prgRamProtect.toNat, r.irqLatchValue.toNat, r.irqCounter.toNat, r.irqReload.toNat,
      r.irqEnable.toNat] ++ r.banks.toList.map (·.toNat)

/-- The number an observed state element holds; an index a list does not have holds 0 (log 8). -/
def observe (s : State) : Observed → Nat
  | .a               => s.a.toNat
  | .x               => s.x.toNat
  | .y               => s.y.toNat
  | .sp              => s.sp.toNat
  | .pc              => s.pc.toNat
  | .flags           => (s.p.image false &&& 0xCF#8).toNat
  | .cyclesToHalt    => s.cyclesToHalt
  | .nmiPending      => s.nmiPending.toNat
  | .irqPending      => s.irqPending.toNat
  | .ram i           => (Store.read s.ram i).toNat
  | .scanline        => s.ppu.scanline
  | .curX            => s.ppu.curX
  | .oddFrame        => s.ppu.oddFrame.toNat
  | .ctrl            => s.ppu.ctrl.toNat
  | .mask            => s.ppu.mask.toNat
  | .vblank          => s.ppu.vblank.toNat
  | .spr0Hit         => s.ppu.spr0Hit.toNat
  | .sprOverflow     => s.ppu.sprOverflow.toNat
  | .oamAddr         => s.ppu.oamAddr.toNat
  | .v               => s.ppu.v.toNat
  | .t               => s.ppu.t.toNat
  | .fineX           => s.ppu.fineX.toNat
  | .w               => s.ppu.w.toNat
  | .readBuffer      => s.ppu.readBuffer.toNat
  | .oam i           => (Store.read s.ppu.oam i).toNat
  | .nametable i     => (Store.read s.ppu.nametableRam i).toNat
  | .palette i       => (Store.read s.ppu.paletteRam i).toNat
  | .requestEndFrame => s.ppu.requestEndFrame.toNat
  | .nmiCounter      => s.ppu.nmiCounter
  | .rowsRendered    => validLines s
  | .frameWord y x   => (Sys2Proof.Machine.frameWord s.ppu y x).toNat
  | .seqStep         => s.apu.seqStep
  | .seqCycles       => s.apu.seqCycles
  | .frameIrqFlag    => s.apu.frameIrqFlag.toNat
  | .dmcIrqFlag      => s.apu.dmc.dmcIrqFlag.toNat
  | .length k        => [s.apu.pulse1.length, s.apu.pulse2.length, s.apu.triangle.length, s.apu.noise.length].getD k 0
  | .dmcBytes        => s.apu.dmc.bytesRemaining
  | .dmcLevel        => s.apu.dmc.level.toNat
  | .prgWin i        => s.mapper.prgWin.toList.getD i 0
  | .chrWin i        => s.mapper.chrWin.toList.getD i 0
  | .prgRam i        => (Store.read s.mapper.prgRam i).toNat
  | .chrRam i        => (Store.read s.mapper.chrRam i).toNat
  | .mapperReg i     => (mapperRegisters s.mapper.regs).getD i 0
  | .strobe          => s.strobe.toNat
  | .ctrlShift0      => s.ctrlShift0.toNat
  | .ctrlShift1      => s.ctrlShift1.toNat

/-- `BREAK(state)` (53_orchestrator R481; log 8). -/
def breakHolds (s : State) : BreakCond → Bool
  | .never      => false
  | .always     => true
  | .equals o n => observe s o == n
  | .less o n   => decide (observe s o < n)
  | .bit o k    => (observe s o).testBit k
  | .host n     => hostBreak n s
  | .both p q   => breakHolds s p && breakHolds s q
  | .either p q => breakHolds s p || breakHolds s q
  | .negate p   => !breakHolds s p

/-- The start of a `frame()` call that is no resume: `startFrame()`, and no sample emitted yet (53_orchestrator R475 part A). -/
def beginFrame (s : State) : State :=
  { s with ppu := s.ppu.startFrame, samples := [], inFrame := true }

/-- The end-of-frame signal: the call ends, remaining dots are discarded, `runState` stays running (53_orchestrator R480). -/
def endFrame (s : State) : State := { s with inFrame := false }

/-- A break with `dots` dots outstanding (53_orchestrator R481). -/
def takeBreak (dots : Nat) (s : State) : State :=
  { s with breakpointCycles := dots, runState := .midFrameBreak, inFrame := false }

/-- Part D of the loop: up to `n` dots; ends at the end-of-frame signal or at a break (53_orchestrator R475, R480, R481). -/
def runDots : Nat → State → State
  | 0, s => s
  | n + 1, s =>
    let r := ppuDot s
    if r.1 then endFrame r.2
    else if breakHolds r.2 r.2.inputs.brk then takeBreak n r.2
    else runDots n r.2

/-- After a CPU step: first the APU for its cycles, then three dots a cycle (53_orchestrator R478). -/
def runDevices (s : State) : State :=
  let s1 := clockFrameCounter s.stepCycles s
  runDots (3 * s1.stepCycles) s1

/-- One turn of the loop: a CPU step, then the devices (53_orchestrator R475 parts B to D). -/
def loopTurn (s : State) : Result :=
  match emulate s with
  | .next s1   => .next (runDevices s1)
  | .fault r   => .fault r
  | .refused r => .refused r

/-- Resume from a break: the outstanding dots first (53_orchestrator R475 part A, R482). -/
def resumeFrame (s : State) : State :=
  runDots s.breakpointCycles { s with breakpointCycles := 0, runState := .running, inFrame := true }

/-- One step of the machine: a turn of the loop of the `frame()` call in progress, or the first turn of a new call
(53_orchestrator R472, R475). -/
def frameTurn (s : State) : Result :=
  match s.runState with
  | .unloaded      => .refused .frameWhileUnloaded
  | .paused _      => .refused .frameWhilePaused
  | .midFrameBreak => .next (resumeFrame s)
  | .running       => loopTurn (if s.inFrame then s else beginFrame s)

/-- Patch a byte where the CPU would read it, if the address is plain memory: internal RAM, readable cartridge RAM, or
program memory through the present windows. -/
def placeByte (a : Word) (b : Byte) (s : State) : State :=
  match busTarget a with
  | .ram i     => { s with ram := Store.write s.ram i b }
  | .cartRam i => { s with mapper := { s.mapper with prgRam := Store.write s.mapper.prgRam i b } }
  | .prg       => { s with rom := { s.rom with prg := Store.write s.rom.prg (prgMap s.mapper a.toNat) b } }
  | _          => s

/-- An address that `placeByte` can patch. -/
def plainMemory (s : State) (a : Word) : Bool :=
  match busTarget a with
  | .ram _     => true
  | .cartRam _ => cartRamReadable s.mapper
  | .prg       => true
  | _          => false

/-- Three bytes placed from PC on; when PC or one of the two addresses after it is no plain memory, at address 0, and PC is set
to it. -/
def placeInstruction (b0 b1 b2 : Byte) (s : State) : State :=
  let s1 :=
    if plainMemory s s.pc && plainMemory s (s.pc + 1) && plainMemory s (s.pc + 2) then s else s.setPc 0
  placeByte (s1.pc + 2) b2 (placeByte (s1.pc + 1) b1 (placeByte s1.pc b0 s1))

/-- Ready to run the instruction at PC in the next step: running, no stall and nothing pending. -/
def readyToFetch (s : State) : State :=
  { s with runState := .running, breakpointCycles := 0, cyclesToHalt := 0, nmiPending := false, irqPending := false,
           resetMark := false }

end Sys2Proof.Machine
end

