-- ==== Sys2Proof/Machine/Step.lean ====
section
/-! DEFINITION. The step of the machine (53_orchestrator R475; log 9), and how an instruction is placed for the next step (log 1). -/

namespace Sys2Proof.Machine

/-- One step: one turn of the orchestrator's loop. -/
def step (s : State) : Host.Outcome State Fault Refusal := frameTurn s

/-- `s` with an instruction stored where the next step fetches it, as a loader outside the machine would (log 1). -/
def State.withFetchWord (s : State) (nbits w : Nat) : State :=
  let v := w % 2 ^ nbits
  placeInstruction (byteOf v 0) (byteOf v 1) (byteOf v 2) (readyToFetch s)

end Sys2Proof.Machine
end

