-- ==== Sys2Proof/WellFormed.lean ====
section
/-! DEFINITION. Which instructions, ROM files and parameters are well-formed. -/

namespace Sys2Proof

/-- The opcode byte is an undocumented one of the given operand shape (30_encoding R122). -/
def isUndocumented (op : Byte) (m : Mode) : Bool :=
  !(opRow op).documented && (opRow op).mode == m

/-- Every documented instruction is well-formed with any operand: the encoding space has no reserved field
(30_encoding R121). A `NOP*` carries an undocumented opcode of its own shape. -/
def Instr.wellFormed : Instr → Bool
  | .nopStarImp op    => isUndocumented op .imp
  | .nopStarImm op _  => isUndocumented op .imm
  | .nopStarZp op _   => isUndocumented op .zp
  | .nopStarZpx op _  => isUndocumented op .zpx
  | .nopStarZpy op _  => isUndocumented op .zpy
  | .nopStarAbs op _  => isUndocumented op .abs
  | .nopStarAbsx op _ => isUndocumented op .absx
  | .nopStarAbsy op _ => isUndocumented op .absy
  | .nopStarIndx op _ => isUndocumented op .indx
  | .nopStarIndy op _ => isUndocumented op .indy
  | _                 => true

/-- Why `loadROM` refuses an image (53_orchestrator R473). -/
inductive RomError where
  /-- The mapper is not NROM, MMC1 or MMC3. -/
  | unknownMapper (n : Nat)
  /-- `len(PRG)` is 0 or not a multiple of 16,384. -/
  | badPrgLength (n : Nat)
  /-- `len(CHR)` is not a multiple of 8,192. -/
  | badChrLength (n : Nat)
  deriving DecidableEq, Repr

/-- The checks of `loadROM`, made before anything is mutated (53_orchestrator R473). -/
def RomFile.check (f : RomFile) : Except RomError MapperId :=
  match f.tag with
  | .other n => .error (.unknownMapper n)
  | .known m =>
    if f.prg.length = 0 ∨ f.prg.length % 16384 ≠ 0 then .error (.badPrgLength f.prg.length)
    else if f.chr.length % 8192 ≠ 0 then .error (.badChrLength f.chr.length)
    else .ok m

/-- The same length rules of a bound ROM image (00_scope R7). -/
def RomImage.wellFormed (r : RomImage) : Bool :=
  decide (0 < r.prgLen) && decide (r.prgLen % 16384 = 0) && decide (r.chrLen % 8192 = 0)

/-- What 00_scope R7 asks of the parameters: `RESET_P` has bit 2 set, `STALL_CHUNK` and `NMI_DELAY_DOTS` are
positive; a frame has at least one scanline and the two periods are positive. -/
def Config.wellFormed (c : Config) : Bool :=
  c.resetP.getLsbD 2 && decide (0 < c.stallChunk) && decide (0 < c.nmiDelayDots) &&
  decide (0 < c.scanlinesPerFrame) && decide (0 < c.frameSeqPeriod) && decide (0 < c.cpuHz)

end Sys2Proof
end

