-- ==== Sys2Proof/Machine/Orchestrator.lean ====
section
/-! DEFINITION. The host interface: construction, `loadROM`, `reset`, `reloadROM`, `pause`, `resume`, inputs, `frame`, the frame
buffer, and the savestate record (53_orchestrator R470 to R492, R503 to R509; log 19). -/

namespace Sys2Proof.Machine

/-- Why a host operation is refused; the machine state is then unchanged (53_orchestrator R472, R473, R491). -/
inductive HostError where
  /-- `loadROM` of a malformed image (R473). -/
  | malformedRom (e : RomError)
  /-- `reset()`, `reloadROM()`, `toJSON()` or `fromJSON()` while unloaded (R472, R491). -/
  | unloaded
  /-- `pause()` when not running or at a break, `resume()` when not paused (R472). -/
  | wrongRunState
  /-- A host operation while `frame()` is executing (R492; 70_reset_and_hazards R536). -/
  | insideFrame
  /-- `fromJSON` of an unknown version (R491). -/
  | unknownVersion
  /-- `fromJSON` of another mapper's record (R491). -/
  | mapperMismatch
  /-- `fromJSON` of a record whose array lengths do not fit (R491). -/
  | badLength
  deriving DecidableEq, Repr

/-- The result of a host operation that changes the machine. -/
abbrev HostResult := Except HostError State

/-- The machine at construction, before any ROM is loaded: the orchestrator's values are those of 53_orchestrator R471. DESIGN
CHOICE (log 27): the spec gives the other blocks no value before a `loadROM`; they hold those of `State.reset`, which
`loadROM` replaces. -/
def State.constructed : State := { State.reset with runState := .unloaded }

/-- The ROM image a classified file gives (53_orchestrator R508). -/
def classifiedImage (f : RomFile) (m : MapperId) : RomImage where
  mapperId  := m
  prgLen    := f.prg.length
  prg       := Memory.ofBytes f.prg
  chrLen    := f.chr.length
  chr       := Memory.ofBytes f.chr
  mirroring := f.mirroring
  battery   := f.battery

/-- Bind an accepted image and reset: cartridge RAM takes `PRGRAM_INIT` (53_orchestrator R471, R473). -/
def bindRom (rom : RomImage) (s : State) : State :=
  { resetWith s.cfg.prgRamInit { s with rom := rom } with runState := .running, breakpointCycles := 0 }

/-- `loadROM` (53_orchestrator R473). -/
def loadRom (f : RomFile) (s : State) : HostResult :=
  if s.inFrame then .error .insideFrame
  else
    match f.check with
    | .error e => .error (.malformedRom e)
    | .ok m    => .ok (bindRom (classifiedImage f m) s)

/-- `reset()` turns a mid-frame break into running and leaves the rest as it is (53_orchestrator R471). DESIGN CHOICE (log 26):
what `paused` remembers is left as it is too, where the rule says nothing of it. -/
def RunState.afterReset : RunState → RunState
  | .unloaded      => .unloaded
  | .running       => .running
  | .paused b      => .paused b
  | .midFrameBreak => .running

/-- `reset()` and `reloadROM()`, which have the same effect (53_orchestrator R474, R471). -/
def hostReset (s : State) : HostResult :=
  if s.inFrame then .error .insideFrame
  else
    match s.runState with
    | .unloaded => .error .unloaded
    | r         => .ok { performReset s with runState := r.afterReset, breakpointCycles := 0 }

/-- `reloadROM()` (53_orchestrator R474). -/
def reloadRom (s : State) : HostResult := hostReset s

/-- `pause()` (53_orchestrator R472). -/
def pause (s : State) : HostResult :=
  if s.inFrame then .error .insideFrame
  else
    match s.runState with
    | .running       => .ok { s with runState := .paused false }
    | .midFrameBreak => .ok { s with runState := .paused true }
    | _              => .error .wrongRunState

/-- `resume()` (53_orchestrator R472). -/
def resume (s : State) : HostResult :=
  match s.runState with
  | .paused false => .ok { s with runState := .running }
  | .paused true  => .ok { s with runState := .midFrameBreak }
  | _             => .error .wrongRunState

/-- The controller shift registers follow the buttons while the strobe is 1 (53_orchestrator R500; log 28). -/
def followButtons (s : State) : State :=
  if s.strobe then { s with ctrlShift0 := s.inputs.buttons0, ctrlShift1 := s.inputs.buttons1 } else s

/-- The inputs of the next `frame()` call, followed by the shift registers under a raised strobe (53_orchestrator R476, R500). -/
def setInputs (i : Inputs) (s : State) : HostResult :=
  if s.inFrame then .error .insideFrame else .ok (followButtons { s with inputs := i })

/-- `requestIrq(RESET)` by the orchestrator (53_orchestrator R472; 60_exceptions R252, R253). -/
def requestReset (s : State) : State := requestIrq .reset s

/-- What a `frame()` call gives (53_orchestrator R475, R484). -/
inductive FrameResult where
  | frameDone (s : State)
  | broke (s : State)
  | refused (r : Refusal)
  | outOfFuel (s : State)
  deriving DecidableEq, Repr

/-- Steps until the `frame()` call ends, at most the given number (53_orchestrator R475, R484; log 23). -/
def frame : Nat → State → FrameResult
  | 0, s => .outOfFuel s
  | n + 1, s =>
    match step s with
    | .fault r   => nomatch r
    | .refused r => .refused r
    | .next t    =>
      if t.inFrame then frame n t
      else if t.runState = .midFrameBreak then .broke t
      else .frameDone t

/-- Enough steps for any `frame()` call: three dots every two steps (53_orchestrator R484; log 23). -/
def frameFuel (s : State) : Nat := 2 * (s.cfg.scanlinesPerFrame * 341 + s.cfg.nmiDelayDots) + 2

/-- The frame buffer, 240 rows of 256 words, row 0 on top (53_orchestrator R503; 50_ppu R300). -/
def frameBuffer (s : State) : List Colour :=
  (List.range 61440).map fun i => frameWord s.ppu (i / 256) (i % 256)

/-- The partial frame buffer at a break, with the boundary of what is valid (50_ppu R349). -/
def partialFrame (s : State) : List Colour × Nat := (frameBuffer s, validLines s)

/-- The `cpu` block of a savestate (53_orchestrator R486). -/
structure CpuBlock where
  a            : Byte
  x            : Byte
  y            : Byte
  sp           : Byte
  pc           : Word
  p            : Flags
  cyclesToHalt : Nat
  nmiPending   : Bool
  irqPending   : Bool
  resetMark    : Bool
  ram          : Memory
  deriving DecidableEq, Repr

/-- The `orchestrator` block of a savestate (53_orchestrator R490). -/
structure OrchestratorBlock where
  runState         : RunState
  breakpointCycles : Nat
  strobe           : Bool
  ctrlShift0       : Byte
  ctrlShift1       : Byte
  deriving DecidableEq, Repr

/-- A savestate record: version, the five blocks, and the ROM reference (53_orchestrator R485 to R490). The mapper block's
`regs` is the extension block tagged by mapper identity (R489). -/
structure Savestate where
  version      : Nat
  cpu          : CpuBlock
  ppu          : Ppu
  apu          : Apu
  mapper       : Mapper
  orchestrator : OrchestratorBlock
  rom          : RomImage
  deriving DecidableEq, Repr

/-- The identity an extension block is tagged with (53_orchestrator R489). -/
def MapperRegs.tag : MapperRegs → MapperId
  | .nrom   => .nrom
  | .mmc1 _ => .mmc1
  | .mmc3 _ => .mmc3

/-- The record of a machine (53_orchestrator R485 to R490). -/
def capture (s : State) : Savestate where
  version      := 1
  cpu          := ⟨s.a, s.x, s.y, s.sp, s.pc, s.p, s.cyclesToHalt, s.nmiPending, s.irqPending, s.resetMark, s.ram⟩
  ppu          := s.ppu
  apu          := s.apu
  mapper       := s.mapper
  orchestrator := ⟨s.runState, s.breakpointCycles, s.strobe, s.ctrlShift0, s.ctrlShift1⟩
  rom          := s.rom

/-- `toJSON()`; only between `frame()` calls (53_orchestrator R472, R485, R492). -/
def toJson (s : State) : Except HostError Savestate :=
  if s.inFrame then .error .insideFrame
  else if s.runState = .unloaded then .error .unloaded
  else .ok (capture s)

/-- A sparse array of a record fits a length: canonical, and no index beyond it (53_orchestrator R491). -/
def Store.fits {w : Nat} (m : Store w) (size : Nat) : Bool := Store.wf m && Store.below m size

/-- Every array of a record has the length of its state element on a machine with the given image (53_orchestrator R491).
DEDUCED (log 25): pattern RAM exists only when `CHR` is empty (52_mappers R420), so with CHR ROM its length is 0. -/
def Savestate.lengthsFit (r : Savestate) (rom : RomImage) : Bool :=
  Store.fits (w := 8) r.cpu.ram 2048 && Store.fits (w := 8) r.ppu.oam 256 && Store.fits (w := 8) r.ppu.nametableRam 4096 &&
  Store.fits r.ppu.paletteRam 32 && Store.fits (w := 8) r.mapper.prgRam 8192 &&
  Store.fits (w := 8) r.mapper.chrRam (if rom.chrLen = 0 then 8192 else 0) &&
  r.ppu.frameRows.all fun e => decide (e.1 < 240) && decide (e.2.length = 256)

/-- Set every state element from a record; parameters, inputs and the bound ROM stay (53_orchestrator R491; log 19). -/
def restore (r : Savestate) (s : State) : State :=
  { s with
    a := r.cpu.a, x := r.cpu.x, y := r.cpu.y, sp := r.cpu.sp, pc := r.cpu.pc, p := r.cpu.p,
    cyclesToHalt := r.cpu.cyclesToHalt, nmiPending := r.cpu.nmiPending, irqPending := r.cpu.irqPending,
    resetMark := r.cpu.resetMark, ram := r.cpu.ram, ppu := r.ppu, apu := r.apu, mapper := r.mapper,
    runState := r.orchestrator.runState, breakpointCycles := r.orchestrator.breakpointCycles,
    strobe := r.orchestrator.strobe, ctrlShift0 := r.orchestrator.ctrlShift0, ctrlShift1 := r.orchestrator.ctrlShift1 }

/-- `fromJSON(rec)`: the checks in the spec's order, then the restore (53_orchestrator R491). -/
def fromJson (r : Savestate) (s : State) : HostResult :=
  if s.inFrame then .error .insideFrame
  else if r.version ≠ 1 then .error .unknownVersion
  else if s.runState = .unloaded then .error .unloaded
  else if r.mapper.regs.tag ≠ s.rom.mapperId then .error .mapperMismatch
  else if r.lengthsFit s.rom then .ok (restore r s)
  else .error .badLength

end Sys2Proof.Machine
end

