-- ==== Sys2Proof/Safety.lean ====
section
/-! DEFINITION. The terms the claims are made in: what an access, an instruction or a device may change, the invariants of a
state, and the forms of the instructions by shape, with opcode, operand and cycles as the instruction rules list them
(40_load_store to 45_system_flags). -/

namespace Sys2Proof.Machine

/-- `t` differs from `s` at most where a CPU-bus read may have an effect: `$2002` and `$2007` in the PPU, `$4015` in the APU,
the controller shift registers, and the number of draws taken (20_memory R77). -/
def OnlyReadEffects (s t : State) : Prop :=
  t = { s with
    draws := t.draws
    ppu := { s.ppu with vblank := t.ppu.vblank, w := t.ppu.w, readBuffer := t.ppu.readBuffer, v := t.ppu.v }
    apu := { s.apu with frameIrqFlag := t.apu.frameIrqFlag }
    ctrlShift0 := t.ctrlShift0
    ctrlShift1 := t.ctrlShift1 }

/-- `t` differs from `s` at most where a CPU-bus access may have an effect: the memories, the devices, the stall counter
(20_memory R77, R78). No CPU register, latch, parameter or host field. -/
def OnlyBusEffects (s t : State) : Prop :=
  t = { s with
    ram := t.ram
    ppu := t.ppu
    apu := t.apu
    mapper := t.mapper
    cyclesToHalt := t.cyclesToHalt
    strobe := t.strobe
    ctrlShift0 := t.ctrlShift0
    ctrlShift1 := t.ctrlShift1
    draws := t.draws }

/-- `t` differs from `s` at most where an instruction may have an effect: the registers, the bus, the cycle count. -/
def OnlyInstructionEffects (s t : State) : Prop :=
  t = { s with
    a := t.a
    x := t.x
    y := t.y
    sp := t.sp
    pc := t.pc
    p := t.p
    stepCycles := t.stepCycles
    ram := t.ram
    ppu := t.ppu
    apu := t.apu
    mapper := t.mapper
    cyclesToHalt := t.cyclesToHalt
    strobe := t.strobe
    ctrlShift0 := t.ctrlShift0
    ctrlShift1 := t.ctrlShift1
    draws := t.draws }

/-- `t` differs from `s` at most where an instruction that stores nothing may have an effect: the registers, the effects of
reads, the cycle count. -/
def OnlyRegisterEffects (s t : State) : Prop :=
  t = { s with
    a := t.a
    x := t.x
    y := t.y
    sp := t.sp
    pc := t.pc
    p := t.p
    stepCycles := t.stepCycles
    draws := t.draws
    ppu := { s.ppu with vblank := t.ppu.vblank, w := t.ppu.w, readBuffer := t.ppu.readBuffer, v := t.ppu.v }
    apu := { s.apu with frameIrqFlag := t.apu.frameIrqFlag }
    ctrlShift0 := t.ctrlShift0
    ctrlShift1 := t.ctrlShift1 }

/-- `t` differs from `s` at most where the APU may have an effect: itself, its samples, the DMC's bus reads, the IRQ latch. -/
def OnlyApuEffects (s t : State) : Prop :=
  t = { s with
    draws := t.draws
    ppu := { s.ppu with vblank := t.ppu.vblank, w := t.ppu.w, readBuffer := t.ppu.readBuffer, v := t.ppu.v }
    apu := t.apu
    ctrlShift0 := t.ctrlShift0
    ctrlShift1 := t.ctrlShift1
    irqPending := t.irqPending
    samples := t.samples }

/-- `t` differs from `s` at most where a dot may have an effect: the PPU, the mapper's scanline counter, the latches. -/
def OnlyDotEffects (s t : State) : Prop :=
  t = { s with ppu := t.ppu, mapper := { s.mapper with regs := t.mapper.regs }, irqPending := t.irqPending, nmiPending := t.nmiPending }

/-- Every memory of the machine is in canonical form (log 3). -/
def State.canonical (s : State) : Bool :=
  Memory.wf s.ram && Memory.wf s.mapper.prgRam && Memory.wf s.mapper.chrRam && Memory.wf s.ppu.oam &&
  Memory.wf s.ppu.nametableRam && Store.wf s.ppu.paletteRam && Memory.wf s.cfg.ramInit && Memory.wf s.cfg.prgRamInit &&
  Memory.wf s.rom.prg && Memory.wf s.rom.chr

/-- The raster position is inside the frame, and a frame end that is requested is still to come (50_ppu R310). -/
def State.rasterOk (s : State) : Bool :=
  decide (s.ppu.scanline < s.cfg.scanlinesPerFrame) && decide (s.ppu.curX ≤ 340) &&
  (!s.ppu.requestEndFrame || decide (1 ≤ s.ppu.nmiCounter)) &&
  decide (0 < s.cfg.scanlinesPerFrame) && decide (1 ≤ s.cfg.nmiDelayDots)

/-- Every bank window shows a bank the image has (52_mappers R420, R422, R423). -/
def State.windowsOk (s : State) : Bool :=
  s.mapper.prgWin.toList.all (fun b => decide (b < nb8 s.rom)) && s.mapper.chrWin.toList.all (fun b => decide (b < nc1 s.rom)) &&
  s.rom.wellFormed

-- FORMS: instructions by shape

/-- A byte register of the CPU. -/
inductive Reg where
  | a
  | x
  | y
  | sp
  deriving DecidableEq, Repr

/-- The value of a register. -/
def State.reg (s : State) : Reg → Byte
  | .a  => s.a
  | .x  => s.x
  | .y  => s.y
  | .sp => s.sp

/-- Give a register a value. -/
def State.withReg (s : State) (r : Reg) (v : Byte) : State :=
  match r with
  | .a  => { s with a := v }
  | .x  => { s with x := v }
  | .y  => { s with y := v }
  | .sp => { s with sp := v }

/-- The operations on A and an operand (42_arith_logic R170 to R174). -/
inductive AluOp where
  | adc
  | sbc
  | and
  | ora
  | eor
  deriving DecidableEq, Repr

/-- The operations on one byte (43_shift_incdec R190 to R195). -/
inductive ByteOp where
  | asl
  | lsr
  | rol
  | ror
  | inc
  | dec
  deriving DecidableEq, Repr

/-- A form with a data operand: opcode byte, operand, base cycles, and whether a page crossing costs one more. -/
structure OperandForm where
  opcode    : Byte
  operand   : Operand
  cycles    : Nat
  pageCycle : Bool
  deriving DecidableEq, Repr

/-- The cycle count of a form when indexing crossed a page or not (30_encoding R105). -/
def OperandForm.total (f : OperandForm) (crossed : Bool) : Nat := f.cycles + (if f.pageCycle && crossed then 1 else 0)

/-- The load forms, with the register loaded (40_load_store R131 to R133). -/
def loadForm : Instr → Option (Reg × OperandForm)
  | .ldyImm b1 => some (.y, ⟨0xA0#8, .imm b1, 2, false⟩)
  | .ldaIndx b1 => some (.a, ⟨0xA1#8, .indx b1, 6, false⟩)
  | .ldxImm b1 => some (.x, ⟨0xA2#8, .imm b1, 2, false⟩)
  | .ldyZp b1 => some (.y, ⟨0xA4#8, .zp b1, 3, false⟩)
  | .ldaZp b1 => some (.a, ⟨0xA5#8, .zp b1, 3, false⟩)
  | .ldxZp b1 => some (.x, ⟨0xA6#8, .zp b1, 3, false⟩)
  | .ldaImm b1 => some (.a, ⟨0xA9#8, .imm b1, 2, false⟩)
  | .ldyAbs w => some (.y, ⟨0xAC#8, .abs w, 4, false⟩)
  | .ldaAbs w => some (.a, ⟨0xAD#8, .abs w, 4, false⟩)
  | .ldxAbs w => some (.x, ⟨0xAE#8, .abs w, 4, false⟩)
  | .ldaIndy b1 => some (.a, ⟨0xB1#8, .indy b1, 5, true⟩)
  | .ldyZpx b1 => some (.y, ⟨0xB4#8, .zpx b1, 4, false⟩)
  | .ldaZpx b1 => some (.a, ⟨0xB5#8, .zpx b1, 4, false⟩)
  | .ldxZpy b1 => some (.x, ⟨0xB6#8, .zpy b1, 4, false⟩)
  | .ldaAbsy w => some (.a, ⟨0xB9#8, .absy w, 4, true⟩)
  | .ldyAbsx w => some (.y, ⟨0xBC#8, .absx w, 4, true⟩)
  | .ldaAbsx w => some (.a, ⟨0xBD#8, .absx w, 4, true⟩)
  | .ldxAbsy w => some (.x, ⟨0xBE#8, .absy w, 4, true⟩)
  | _ => none

/-- The store forms, with the register stored (40_load_store R134 to R136). -/
def storeForm : Instr → Option (Reg × OperandForm)
  | .staIndx b1 => some (.a, ⟨0x81#8, .indx b1, 6, false⟩)
  | .styZp b1 => some (.y, ⟨0x84#8, .zp b1, 3, false⟩)
  | .staZp b1 => some (.a, ⟨0x85#8, .zp b1, 3, false⟩)
  | .stxZp b1 => some (.x, ⟨0x86#8, .zp b1, 3, false⟩)
  | .styAbs w => some (.y, ⟨0x8C#8, .abs w, 4, false⟩)
  | .staAbs w => some (.a, ⟨0x8D#8, .abs w, 4, false⟩)
  | .stxAbs w => some (.x, ⟨0x8E#8, .abs w, 4, false⟩)
  | .staIndy b1 => some (.a, ⟨0x91#8, .indy b1, 6, false⟩)
  | .styZpx b1 => some (.y, ⟨0x94#8, .zpx b1, 4, false⟩)
  | .staZpx b1 => some (.a, ⟨0x95#8, .zpx b1, 4, false⟩)
  | .stxZpy b1 => some (.x, ⟨0x96#8, .zpy b1, 4, false⟩)
  | .staAbsy w => some (.a, ⟨0x99#8, .absy w, 5, false⟩)
  | .staAbsx w => some (.a, ⟨0x9D#8, .absx w, 5, false⟩)
  | _ => none

/-- The arithmetic and logic forms (42_arith_logic R170 to R174). -/
def aluForm : Instr → Option (AluOp × OperandForm)
  | .oraIndx b1 => some (.ora, ⟨0x01#8, .indx b1, 6, false⟩)
  | .oraZp b1 => some (.ora, ⟨0x05#8, .zp b1, 3, false⟩)
  | .oraImm b1 => some (.ora, ⟨0x09#8, .imm b1, 2, false⟩)
  | .oraAbs w => some (.ora, ⟨0x0D#8, .abs w, 4, false⟩)
  | .oraIndy b1 => some (.ora, ⟨0x11#8, .indy b1, 5, true⟩)
  | .oraZpx b1 => some (.ora, ⟨0x15#8, .zpx b1, 4, false⟩)
  | .oraAbsy w => some (.ora, ⟨0x19#8, .absy w, 4, true⟩)
  | .oraAbsx w => some (.ora, ⟨0x1D#8, .absx w, 4, true⟩)
  | .andIndx b1 => some (.and, ⟨0x21#8, .indx b1, 6, false⟩)
  | .andZp b1 => some (.and, ⟨0x25#8, .zp b1, 3, false⟩)
  | .andImm b1 => some (.and, ⟨0x29#8, .imm b1, 2, false⟩)
  | .andAbs w => some (.and, ⟨0x2D#8, .abs w, 4, false⟩)
  | .andIndy b1 => some (.and, ⟨0x31#8, .indy b1, 5, true⟩)
  | .andZpx b1 => some (.and, ⟨0x35#8, .zpx b1, 4, false⟩)
  | .andAbsy w => some (.and, ⟨0x39#8, .absy w, 4, true⟩)
  | .andAbsx w => some (.and, ⟨0x3D#8, .absx w, 4, true⟩)
  | .eorIndx b1 => some (.eor, ⟨0x41#8, .indx b1, 6, false⟩)
  | .eorZp b1 => some (.eor, ⟨0x45#8, .zp b1, 3, false⟩)
  | .eorImm b1 => some (.eor, ⟨0x49#8, .imm b1, 2, false⟩)
  | .eorAbs w => some (.eor, ⟨0x4D#8, .abs w, 4, false⟩)
  | .eorIndy b1 => some (.eor, ⟨0x51#8, .indy b1, 5, true⟩)
  | .eorZpx b1 => some (.eor, ⟨0x55#8, .zpx b1, 4, false⟩)
  | .eorAbsy w => some (.eor, ⟨0x59#8, .absy w, 4, true⟩)
  | .eorAbsx w => some (.eor, ⟨0x5D#8, .absx w, 4, true⟩)
  | .adcIndx b1 => some (.adc, ⟨0x61#8, .indx b1, 6, false⟩)
  | .adcZp b1 => some (.adc, ⟨0x65#8, .zp b1, 3, false⟩)
  | .adcImm b1 => some (.adc, ⟨0x69#8, .imm b1, 2, false⟩)
  | .adcAbs w => some (.adc, ⟨0x6D#8, .abs w, 4, false⟩)
  | .adcIndy b1 => some (.adc, ⟨0x71#8, .indy b1, 5, true⟩)
  | .adcZpx b1 => some (.adc, ⟨0x75#8, .zpx b1, 4, false⟩)
  | .adcAbsy w => some (.adc, ⟨0x79#8, .absy w, 4, true⟩)
  | .adcAbsx w => some (.adc, ⟨0x7D#8, .absx w, 4, true⟩)
  | .sbcIndx b1 => some (.sbc, ⟨0xE1#8, .indx b1, 6, false⟩)
  | .sbcZp b1 => some (.sbc, ⟨0xE5#8, .zp b1, 3, false⟩)
  | .sbcImm b1 => some (.sbc, ⟨0xE9#8, .imm b1, 2, false⟩)
  | .sbcAbs w => some (.sbc, ⟨0xED#8, .abs w, 4, false⟩)
  | .sbcIndy b1 => some (.sbc, ⟨0xF1#8, .indy b1, 5, true⟩)
  | .sbcZpx b1 => some (.sbc, ⟨0xF5#8, .zpx b1, 4, false⟩)
  | .sbcAbsy w => some (.sbc, ⟨0xF9#8, .absy w, 4, true⟩)
  | .sbcAbsx w => some (.sbc, ⟨0xFD#8, .absx w, 4, true⟩)
  | _ => none

/-- The compare forms, with the register compared (42_arith_logic R175 to R177). -/
def compareForm : Instr → Option (Reg × OperandForm)
  | .cpyImm b1 => some (.y, ⟨0xC0#8, .imm b1, 2, false⟩)
  | .cmpIndx b1 => some (.a, ⟨0xC1#8, .indx b1, 6, false⟩)
  | .cpyZp b1 => some (.y, ⟨0xC4#8, .zp b1, 3, false⟩)
  | .cmpZp b1 => some (.a, ⟨0xC5#8, .zp b1, 3, false⟩)
  | .cmpImm b1 => some (.a, ⟨0xC9#8, .imm b1, 2, false⟩)
  | .cpyAbs w => some (.y, ⟨0xCC#8, .abs w, 4, false⟩)
  | .cmpAbs w => some (.a, ⟨0xCD#8, .abs w, 4, false⟩)
  | .cmpIndy b1 => some (.a, ⟨0xD1#8, .indy b1, 5, true⟩)
  | .cmpZpx b1 => some (.a, ⟨0xD5#8, .zpx b1, 4, false⟩)
  | .cmpAbsy w => some (.a, ⟨0xD9#8, .absy w, 4, true⟩)
  | .cmpAbsx w => some (.a, ⟨0xDD#8, .absx w, 4, true⟩)
  | .cpxImm b1 => some (.x, ⟨0xE0#8, .imm b1, 2, false⟩)
  | .cpxZp b1 => some (.x, ⟨0xE4#8, .zp b1, 3, false⟩)
  | .cpxAbs w => some (.x, ⟨0xEC#8, .abs w, 4, false⟩)
  | _ => none

/-- The bit test forms (42_arith_logic R178). -/
def bitForm : Instr → Option OperandForm
  | .bitZp b1 => some ⟨0x24#8, .zp b1, 3, false⟩
  | .bitAbs w => some ⟨0x2C#8, .abs w, 4, false⟩
  | _ => none

/-- The read-modify-write forms on memory (43_shift_incdec R190 to R195, R200). -/
def modifyForm : Instr → Option (ByteOp × OperandForm)
  | .aslZp b1 => some (.asl, ⟨0x06#8, .zp b1, 5, false⟩)
  | .aslAbs w => some (.asl, ⟨0x0E#8, .abs w, 6, false⟩)
  | .aslZpx b1 => some (.asl, ⟨0x16#8, .zpx b1, 6, false⟩)
  | .aslAbsx w => some (.asl, ⟨0x1E#8, .absx w, 7, false⟩)
  | .rolZp b1 => some (.rol, ⟨0x26#8, .zp b1, 5, false⟩)
  | .rolAbs w => some (.rol, ⟨0x2E#8, .abs w, 6, false⟩)
  | .rolZpx b1 => some (.rol, ⟨0x36#8, .zpx b1, 6, false⟩)
  | .rolAbsx w => some (.rol, ⟨0x3E#8, .absx w, 7, false⟩)
  | .lsrZp b1 => some (.lsr, ⟨0x46#8, .zp b1, 5, false⟩)
  | .lsrAbs w => some (.lsr, ⟨0x4E#8, .abs w, 6, false⟩)
  | .lsrZpx b1 => some (.lsr, ⟨0x56#8, .zpx b1, 6, false⟩)
  | .lsrAbsx w => some (.lsr, ⟨0x5E#8, .absx w, 7, false⟩)
  | .rorZp b1 => some (.ror, ⟨0x66#8, .zp b1, 5, false⟩)
  | .rorAbs w => some (.ror, ⟨0x6E#8, .abs w, 6, false⟩)
  | .rorZpx b1 => some (.ror, ⟨0x76#8, .zpx b1, 6, false⟩)
  | .rorAbsx w => some (.ror, ⟨0x7E#8, .absx w, 7, false⟩)
  | .decZp b1 => some (.dec, ⟨0xC6#8, .zp b1, 5, false⟩)
  | .decAbs w => some (.dec, ⟨0xCE#8, .abs w, 6, false⟩)
  | .decZpx b1 => some (.dec, ⟨0xD6#8, .zpx b1, 6, false⟩)
  | .decAbsx w => some (.dec, ⟨0xDE#8, .absx w, 7, false⟩)
  | .incZp b1 => some (.inc, ⟨0xE6#8, .zp b1, 5, false⟩)
  | .incAbs w => some (.inc, ⟨0xEE#8, .abs w, 6, false⟩)
  | .incZpx b1 => some (.inc, ⟨0xF6#8, .zpx b1, 6, false⟩)
  | .incAbsx w => some (.inc, ⟨0xFE#8, .absx w, 7, false⟩)
  | _ => none

/-- The accumulator forms of shifts and rotates, with their opcodes (43_shift_incdec R190 to R193). -/
def accumulatorForm : Instr → Option (ByteOp × Byte)
  | .aslAcc => some (.asl, 0x0A#8)
  | .rolAcc => some (.rol, 0x2A#8)
  | .lsrAcc => some (.lsr, 0x4A#8)
  | .rorAcc => some (.ror, 0x6A#8)
  | _ => none

/-- The register increments and decrements: register, amount modulo 256, opcode (43_shift_incdec R196 to R199). -/
def countForm : Instr → Option (Reg × Byte × Byte)
  | .dey => some (.y, 0xFF#8, 0x88#8)
  | .iny => some (.y, 1#8, 0xC8#8)
  | .dex => some (.x, 0xFF#8, 0xCA#8)
  | .inx => some (.x, 1#8, 0xE8#8)
  | _ => none

/-- The register transfers: source, destination, opcode (41_transfer_stack R150 to R155). -/
def transferForm : Instr → Option (Reg × Reg × Byte)
  | .txa => some (.x, .a, 0x8A#8)
  | .tya => some (.y, .a, 0x98#8)
  | .txs => some (.x, .sp, 0x9A#8)
  | .tay => some (.a, .y, 0xA8#8)
  | .tax => some (.a, .x, 0xAA#8)
  | .tsx => some (.sp, .x, 0xBA#8)
  | _ => none

/-- The conditional branches: condition on the flags, offset byte, opcode (44_control R214 to R221). -/
def branchForm : Instr → Option ((Flags → Bool) × Byte × Byte)
  | .bpl b1 => some (fun p => !p.n, b1, 0x10#8)
  | .bmi b1 => some (fun p => p.n, b1, 0x30#8)
  | .bvc b1 => some (fun p => !p.v, b1, 0x50#8)
  | .bvs b1 => some (fun p => p.v, b1, 0x70#8)
  | .bcc b1 => some (fun p => !p.c, b1, 0x90#8)
  | .bcs b1 => some (fun p => p.c, b1, 0xB0#8)
  | .bne b1 => some (fun p => !p.z, b1, 0xD0#8)
  | .beq b1 => some (fun p => p.z, b1, 0xF0#8)
  | _ => none

/-- The flag instructions: their effect on the flags, and their opcode (45_system_flags R232 to R238). -/
def flagForm : Instr → Option ((Flags → Flags) × Byte)
  | .clc => some (fun p => { p with c := false }, 0x18#8)
  | .sec => some (fun p => { p with c := true }, 0x38#8)
  | .cli => some (fun p => { p with i := false }, 0x58#8)
  | .sei => some (fun p => { p with i := true }, 0x78#8)
  | .clv => some (fun p => { p with v := false }, 0xB8#8)
  | .cld => some (fun p => { p with d := false }, 0xD8#8)
  | .sed => some (fun p => { p with d := true }, 0xF8#8)
  | _ => none

/-- The undocumented opcodes by shape: the opcode byte and the cycles of the shape (45_system_flags R240). -/
def undocumentedForm : Instr → Option (Byte × Nat)
  | .nopStarImp op => some (op, 2)
  | .nopStarIndx op _ => some (op, 6)
  | .nopStarZp op _ => some (op, 3)
  | .nopStarImm op _ => some (op, 2)
  | .nopStarAbs op _ => some (op, 4)
  | .nopStarIndy op _ => some (op, 5)
  | .nopStarZpx op _ => some (op, 4)
  | .nopStarAbsy op _ => some (op, 4)
  | .nopStarAbsx op _ => some (op, 4)
  | .nopStarZpy op _ => some (op, 4)
  | _ => none

/-- The instructions that push on the stack: pushes, JSR and BRK. -/
def pushes : Instr → Bool
  | .pha   => true
  | .php   => true
  | .jsr _ => true
  | .brk   => true
  | _      => false

/-- The instructions that pull from the stack: pulls, RTS and RTI. -/
def pulls : Instr → Bool
  | .pla => true
  | .plp => true
  | .rts => true
  | .rti => true
  | _    => false

/-- The instructions that set the six flags from a pulled byte. -/
def pullsFlags : Instr → Bool
  | .plp => true
  | .rti => true
  | _    => false

/-- The jumps: JMP, JSR, RTS, BRK, RTI. -/
def jumps : Instr → Bool
  | .jmpAbs _ => true
  | .jmpInd _ => true
  | .jsr _    => true
  | .rts      => true
  | .brk      => true
  | .rti      => true
  | _         => false

/-- The instructions that store to memory. -/
def storesToMemory (i : Instr) : Bool := (storeForm i).isSome || (modifyForm i).isSome || pushes i

/-- The register an instruction's rule writes by loading, moving or counting; A also for arithmetic, logic and PLA. -/
def writesReg (r : Reg) (i : Instr) : Bool :=
  (loadForm i).any (fun f => f.1 == r) || (transferForm i).any (fun f => f.2.1 == r) || (countForm i).any (fun f => f.1 == r)

/-- The instructions whose rules write A. -/
def writesA (i : Instr) : Bool :=
  writesReg .a i || (aluForm i).isSome || (accumulatorForm i).isSome || i == .pla

/-- The instructions whose rules write X. -/
def writesX (i : Instr) : Bool := writesReg .x i

/-- The instructions whose rules write Y. -/
def writesY (i : Instr) : Bool := writesReg .y i

/-- The instructions whose rules write S: TXS and the users of the stack. -/
def writesS (i : Instr) : Bool := writesReg .sp i || pushes i || pulls i

/-- The instructions whose rules write PC beyond the advance past the instruction. -/
def writesPc (i : Instr) : Bool := (branchForm i).isSome || jumps i

/-- The instructions whose rules write N and Z: every load, computation and move but TXS, and the pulls of A and P. -/
def writesNZ (i : Instr) : Bool :=
  (loadForm i).isSome || (aluForm i).isSome || (compareForm i).isSome || (bitForm i).isSome || (modifyForm i).isSome ||
  (accumulatorForm i).isSome || (countForm i).isSome || (transferForm i).any (fun f => f.2.1 != .sp) ||
  i == .pla || pullsFlags i

/-- ADC and SBC, the operations that write C and V. -/
def isSum (i : Instr) : Bool := (aluForm i).any fun f => f.1 == .adc || f.1 == .sbc

/-- The instructions whose rules write C: sums, compares, shifts and rotates, CLC, SEC, pulls of P. -/
def writesC (i : Instr) : Bool :=
  isSum i || (compareForm i).isSome || (modifyForm i).any (fun f => f.1 != .inc && f.1 != .dec) ||
  (accumulatorForm i).isSome || i == .clc || i == .sec || pullsFlags i

/-- The instructions whose rules write V: sums, BIT, CLV, pulls of P. -/
def writesV (i : Instr) : Bool := isSum i || (bitForm i).isSome || i == .clv || pullsFlags i

/-- The instructions whose rules write I: CLI, SEI, BRK, pulls of P. -/
def writesI (i : Instr) : Bool := i == .cli || i == .sei || i == .brk || pullsFlags i

/-- The instructions whose rules write D: CLD, SED, pulls of P. -/
def writesD (i : Instr) : Bool := i == .cld || i == .sed || pullsFlags i

/-- The status byte as the sum of its bits, bit 5 set and bit 4 as given (10_state R27). -/
def statusByte (p : Flags) (b : Bool) : Byte :=
  BitVec.ofNat 8 (128 * p.n.toNat + 64 * p.v.toNat + 32 + 16 * b.toNat + 8 * p.d.toNat + 4 * p.i.toNat + 2 * p.z.toNat + p.c.toNat)

/-- N and Z as a byte value gives them, in numbers: N when it is 128 or more, Z when it is 0 (00_scope R9). -/
def withNZ (p : Flags) (v : Byte) : Flags := { p with n := decide (128 ≤ v.toNat), z := decide (v.toNat = 0) }

/-- The result and the carry of a one-byte operation, in numbers; `c` is the carry in (43_shift_incdec R190 to R195). -/
def byteResult (op : ByteOp) (b : Nat) (c : Bool) : Nat × Bool :=
  match op with
  | .asl => (2 * b % 256, decide (128 ≤ b))
  | .lsr => (b / 2, decide (b % 2 = 1))
  | .rol => (2 * b % 256 + c.toNat, decide (128 ≤ b))
  | .ror => (128 * c.toNat + b / 2, decide (b % 2 = 1))
  | .inc => ((b + 1) % 256, c)
  | .dec => ((b + 255) % 256, c)

/-- The result, carry and overflow of an operation on A and an operand, in numbers; `c` and `v` are the flags before
(42_arith_logic R170 to R174, R179). V is set when the signed sum or difference is no signed byte. -/
def aluResult (op : AluOp) (a m : Byte) (c v : Bool) : Nat × Bool × Bool :=
  match op with
  | .adc =>
    ((a.toNat + m.toNat + c.toNat) % 256, decide (256 ≤ a.toNat + m.toNat + c.toNat),
      decide (a.toInt + m.toInt + c.toNat < -128 ∨ 127 < a.toInt + m.toInt + c.toNat))
  | .sbc =>
    ((a.toNat + 256 - m.toNat - (1 - c.toNat)) % 256, decide (m.toNat + (1 - c.toNat) ≤ a.toNat),
      decide (a.toInt - m.toInt - (1 - c.toNat : Nat) < -128 ∨ 127 < a.toInt - m.toInt - (1 - c.toNat : Nat)))
  | .and => ((a &&& m).toNat, c, v)
  | .ora => ((a ||| m).toNat, c, v)
  | .eor => ((a ^^^ m).toNat, c, v)

/-- The state after the first `n` dots. -/
def dotsAfter : Nat → State → State
  | 0, s => s
  | n + 1, s => dotsAfter n (ppuDot s).2

/-- The state after `n` scanline clocks of the mapper. -/
def clocksAfter : Nat → State → State
  | 0, s => s
  | n + 1, s => clocksAfter n (clockIrqCounter s)

/-- The state after `n` reads of an address. -/
def readsAfter (a : Word) : Nat → State → State
  | 0, s => s
  | n + 1, s => readsAfter a n (memRead a s).2

/-- The state after `n` stall steps. -/
def stallsAfter : Nat → State → State
  | 0, s => s
  | n + 1, s => stallsAfter n (stallStep s)

/-- The state after writes to the CPU bus, in order. -/
def writesAfter : List (Word × Byte) → State → State
  | [], s => s
  | (a, v) :: rest, s => writesAfter rest (memWrite a v s)

/-- An address of PPU register number `r`, or of a mirror of it (20_memory R63). -/
def isPpuRegister (a : Word) (r : Nat) : Prop := 0x2000 ≤ a.toNat ∧ a.toNat < 0x4000 ∧ a.toNat % 8 = r

end Sys2Proof.Machine
end

