-- ==== Sys2Proof/Certificates/Slice0/Obligations.lean ====
section
/-! DEFINITION. The statements for the provers, from the numbered rules of the spec: encoding, the CPU step, the instructions
family by family with their frames, the bus, the PPU, the APU, the mappers, the orchestrator. Each docstring names its rules. -/

section Statements

open Sys2Proof Sys2Proof.Machine

/-! ## Encoding -/

/-- Words written out from the encoding tables decode to the instructions they stand for (30_encoding R101, R119, R120). -/
def Obligations.KnownWordsDecode : Prop :=
  decodeTableWord 16 0x80A9 = some (.ldaImm 0x80#8) ∧
  decodeTableWord 24 0x12F0BD = some (.ldaAbsx 0x12F0#16) ∧
  decodeTableWord 16 0x1091 = some (.staIndy 0x10#8) ∧
  decodeTableWord 8 0xAA = some .tax ∧
  decodeTableWord 16 0xF061 = some (.adcIndx 0xF0#8) ∧
  decodeTableWord 24 0x02FFFE = some (.incAbsx 0x02FF#16) ∧
  decodeTableWord 24 0x02FF6C = some (.jmpInd 0x02FF#16) ∧
  decodeTableWord 16 0xFBD0 = some (.bne 0xFB#8) ∧
  decodeTableWord 8 0x00 = some .brk ∧
  decodeTableWord 16 0x01EB = some (.nopStarImm 0xEB#8 0x01#8)

/-- Decoding the encoding of a well-formed instruction gives it back, with every operand, and leaves what follows
(30_encoding R100, R101, R104). -/
def Obligations.DecodeOfEncode : Prop :=
  ∀ (i : Instr) (rest : List Byte), i.wellFormed = true → decode (encode i ++ rest) = .ok (i, rest)

/-- Any three bytes begin with an instruction, which is well-formed and whose encoding is exactly the bytes taken: no opcode
is refused and no byte has two readings (30_encoding R100, R102, R121). -/
def Obligations.EncodeOfDecode : Prop :=
  ∀ (op b1 b2 : Byte) (rest : List Byte), ∃ (i : Instr) (left : List Byte),
    decode (op :: b1 :: b2 :: rest) = .ok (i, left) ∧ i.wellFormed = true ∧ i.opcode = op ∧
    encode i ++ left = op :: b1 :: b2 :: rest

/-- The cycle count of every instruction is that of its opcode-table row, with the penalties the table allows: one more on a
page crossing for the marked rows, and 2, 3 or 4 for a branch (30_encoding R105, R119; 00_scope R13). -/
def Obligations.CyclesMatchOpcodeTable : Prop :=
  ∀ (i : Instr) (s t : State), i.wellFormed = true → exec i s = .next t →
    (i.row.mode = .rel → 2 ≤ t.stepCycles ∧ t.stepCycles ≤ 4) ∧
    (i.row.mode ≠ .rel →
      t.stepCycles = i.row.cycles ∨ (i.row.penalty = true ∧ t.stepCycles = i.row.cycles + 1))

/-! ## The step -/

/-- A step runs the decoded instruction: with nothing to stall for and nothing to take, the step reads the bytes of the
instruction at PC in ascending order, moves PC past them, runs `exec`, and then runs the APU for the cycles and the PPU for
three dots a cycle. A step that begins a frame call first starts the frame: one step of the model is one turn of the frame loop,
the model's choice (30_encoding R102; 53_orchestrator R475, R477, R478; log 9). -/
def Obligations.StepRunsDecodedInstruction : Prop :=
  ∀ (s s0 : State) (i : Instr) (left : List Byte),
    s.runState = .running → s.cyclesToHalt = 0 → s.resetMark = false → s.nmiPending = false → s.irqPending = false →
    s0 = (if s.inFrame then s else beginFrame s) →
    let r0 := memRead s0.pc s0
    let r1 := memRead (s0.pc + 1) r0.2
    let r2 := memRead (s0.pc + 2) r1.2
    decode [r0.1, r1.1, r2.1] = .ok (i, left) →
    let fetched := if i.length = 1 then r0.2 else if i.length = 2 then r1.2 else r2.2
    step s =
      match exec i { fetched with pc := s0.pc + BitVec.ofNat 16 i.length } with
      | .next t    => .next (runDots (3 * t.stepCycles) (clockFrameCounter t.stepCycles t))
      | .fault r   => .fault r
      | .refused r => .refused r

/-- The step is total: a machine that runs or stands at a break goes on, unless the policy refuses the undocumented opcodes
(60_exceptions R250; 30_encoding R121; 70_reset_and_hazards R540). -/
def Obligations.StepGoesOn : Prop :=
  ∀ s : State, (s.runState = .running ∨ s.runState = .midFrameBreak) → s.cfg.illegalPolicy = .nop →
    ∃ t, step s = .next t

/-- No step changes a parameter, the ROM image or the inputs (10_state R21; 53_orchestrator R476). -/
def Obligations.ParametersNeverChange : Prop :=
  ∀ s t : State, step s = .next t → t.cfg = s.cfg ∧ t.rom = s.rom ∧ t.inputs = s.inputs

/-- While a stall lasts a CPU step is a stall step: nothing is fetched, no interrupt is sampled, and nothing but the stall
counter and the cycle count changes. A stall of `k` whole chunks and a rest is consumed by `k` stall steps of a chunk and one of
the rest (53_orchestrator R479). -/
def Obligations.StallConsumedInChunks : Prop :=
  ∀ (s : State) (k rest : Nat), 0 < rest → rest ≤ s.cfg.stallChunk → s.cyclesToHalt = k * s.cfg.stallChunk + rest →
    (∀ u : State, 0 < u.cyclesToHalt → emulate u = .next (stallStep u)) ∧
    (∀ j, j < k → stallStep (stallsAfter j s) =
      { s with cyclesToHalt := (k - 1 - j) * s.cfg.stallChunk + rest, stepCycles := s.cfg.stallChunk }) ∧
    stallsAfter (k + 1) s = { s with cyclesToHalt := 0, stepCycles := rest }

/-- A taken NMI, whatever I is: PC and the status with B = 0 are pushed, high byte first, I is set, PC comes from `$FFFA`,
the latch is cleared, 7 cycles; nothing else changes (60_exceptions R254, R256). -/
def Obligations.NmiEntry : Prop :=
  ∀ s : State, s.cyclesToHalt = 0 → s.resetMark = false → s.nmiPending = true →
    emulate s = .next { s with
      ram := Store.write (Store.write (Store.write s.ram (256 + s.sp.toNat) (hiByte s.pc))
        (256 + (s.sp - 1).toNat) (loByte s.pc)) (256 + (s.sp - 2).toNat) (statusByte s.p false)
      sp := s.sp - 3
      p := { s.p with i := true }
      pc := joinBytes (prgRead s 0xFFFB) (prgRead s 0xFFFA)
      nmiPending := false
      stepCycles := 7 }

/-- An IRQ request, sampled when no NMI is pending: with I = 0 it is taken as an NMI is, from `$FFFE`; with I = 1 the step
executes the next instruction, the request held or dropped as the policy says (60_exceptions R254, R255, R256). -/
def Obligations.IrqTakenOrMasked : Prop :=
  ∀ s : State, s.cyclesToHalt = 0 → s.resetMark = false → s.nmiPending = false → s.irqPending = true →
    (s.p.i = true →
      emulate s = instructionStep { s with irqPending := decide (s.cfg.maskedIrqPolicy = .hold) }) ∧
    (s.p.i = false → emulate s = .next { s with
      ram := Store.write (Store.write (Store.write s.ram (256 + s.sp.toNat) (hiByte s.pc))
        (256 + (s.sp - 1).toNat) (loByte s.pc)) (256 + (s.sp - 2).toNat) (statusByte s.p false)
      sp := s.sp - 3
      p := { s.p with i := true }
      pc := joinBytes (prgRead s 0xFFFF) (prgRead s 0xFFFE)
      irqPending := false
      stepCycles := 7 })

/-- A marked reset comes before NMI and IRQ; the step returns 0 cycles, and CPU, PPU, APU, mapper and controller ports hold what
the reset table gives: `P.I` set, no stall, nothing pending, CPU registers and RAM from their parameters, every PPU register,
memory and counter, every APU register and counter, and the registers and windows of each mapper in numbers (those of MMC1 and
MMC3 for an image of legal length); PC is read last, through these windows (60_exceptions R254, R255; 70_reset_and_hazards R520,
R521; 50_ppu R301; 51_apu R361; 52_mappers R420, R426, R431, R446; that no program has loaded the MMC1 control register is log
14). -/
def Obligations.MarkedResetFirst : Prop :=
  ∀ s : State, s.cyclesToHalt = 0 → s.resetMark = true → ∃ t, emulate s = .next t ∧
    t.stepCycles = 0 ∧ t.resetMark = false ∧ t.nmiPending = false ∧ t.irqPending = false ∧ t.cyclesToHalt = 0 ∧
    t.a = s.cfg.resetA ∧ t.x = s.cfg.resetX ∧ t.y = s.cfg.resetY ∧ t.sp = s.cfg.resetS ∧ t.ram = s.cfg.ramInit ∧
    t.p.i = true ∧ t.p.n = s.cfg.resetP.getLsbD 7 ∧ t.p.v = s.cfg.resetP.getLsbD 6 ∧ t.p.d = s.cfg.resetP.getLsbD 3 ∧
    t.p.z = s.cfg.resetP.getLsbD 1 ∧ t.p.c = s.cfg.resetP.getLsbD 0 ∧
    t.ppu.ctrl = 0#8 ∧ t.ppu.mask = 0#8 ∧ t.ppu.vblank = false ∧ t.ppu.spr0Hit = false ∧ t.ppu.sprOverflow = false ∧
    t.ppu.oamAddr = 0#8 ∧ t.ppu.v = 0#15 ∧ t.ppu.t = 0#15 ∧ t.ppu.fineX = 0#3 ∧ t.ppu.w = false ∧
    t.ppu.readBuffer = 0#8 ∧ t.ppu.scanline = 0 ∧ t.ppu.curX = 0 ∧ t.ppu.oddFrame = false ∧
    (∀ i, Store.read t.ppu.oam i = 0#8) ∧ (∀ i, Store.read t.ppu.nametableRam i = 0#8) ∧
    (∀ i, Store.read t.ppu.paletteRam i = 0#6) ∧
    t.ppu.mirroring = s.rom.mirroring ∧ t.ppu.spr0HitX = none ∧ t.ppu.spr0HitY = none ∧
    t.ppu.requestEndFrame = false ∧ t.ppu.nmiCounter = 0 ∧ t.ppu.lastRenderedLine = -1 ∧
    (∀ y x, frameWord t.ppu y x = 0xFF000000#32) ∧
    (let env : Envelope := ⟨false, false, 0#4, false, 0, 0⟩
     let pulse : Pulse := ⟨false, 0#2, env, false, 0#3, false, 0#3, false, 0, 0#11, 0, 0, 0⟩
     t.apu = { seqMode := false, seqStep := 0, seqCycles := 0, irqInhibit := false, frameIrqFlag := false,
               pulse1 := pulse, pulse2 := pulse, triangle := ⟨false, false, 0#7, 0, false, 0#11, 0, 0, 0⟩,
               noise := ⟨false, env, false, 0#4, 0, 1#15, 0⟩,
               dmc := { irqEnable := false, loop := false, rateIndex := 0#4, timer := 0, level := 0#7,
                        sampleAddrReg := 0#8, sampleLenReg := 0#8, curAddr := 0xC000#16, bytesRemaining := 0,
                        sampleBuffer := 0#8, sampleBufferFull := false, shiftReg := 0#8, bitsRemaining := 8,
                        silence := true, dmcIrqFlag := false },
               sampleAcc := 0 }) ∧
    t.strobe = false ∧ t.ctrlShift0 = 0#8 ∧ t.ctrlShift1 = 0#8 ∧
    t.mapper.prgRam = (if s.rom.battery then s.mapper.prgRam else s.cfg.prgRamInit) ∧
    (∀ i, Store.read t.mapper.chrRam i = 0#8) ∧
    (let n8 := s.rom.prgLen / 8192
     let n16 := s.rom.prgLen / 16384
     (s.rom.mapperId = .nrom → t.mapper.regs = .nrom ∧
       t.mapper.prgWin.toList = [0 % n8, 1 % n8, 2 % n8, 3 % n8] ∧
       t.mapper.chrWin.toList = [0, 1, 2, 3, 4, 5, 6, 7]) ∧
     (s.rom.mapperId = .mmc1 → t.mapper.regs = .mmc1 ⟨0#5, 0, 0x0C#5, 0#5, 0#5, 0#5, false⟩ ∧
       (s.rom.wellFormed = true → t.mapper.prgWin.toList = [0, 1, 2 * n16 - 2, 2 * n16 - 1] ∧
         t.mapper.chrWin.toList = [0, 1, 2, 3, 4, 5, 6, 7])) ∧
     (s.rom.mapperId = .mmc3 →
       t.mapper.regs = .mmc3 ⟨0x00#8, #v[0#8, 2#8, 4#8, 5#8, 6#8, 7#8, 0#8, 1#8], 0x80#8, 0x00#8, 0x00#8, false, false⟩ ∧
       (s.rom.wellFormed = true → t.mapper.prgWin.toList = [0, 1, n8 - 2, n8 - 1] ∧
         t.mapper.chrWin.toList = [0, 1, 2, 3, 4, 5, 6, 7]))) ∧
    t.pc = joinBytes (prgRead t 0xFFFD) (prgRead t 0xFFFC)

/-! ## Operands, loads, stores, transfers, stack -/

/-- The addressing modes: effective address and page crossing in numbers; forming an address changes nothing, and an operand is
the immediate byte or one read at the address (30_encoding R108 to R116). -/
def Obligations.AddressingModes : Prop :=
  ∀ (s : State) (b1 : Byte) (w : Word),
    let cell := fun n : Nat => (Store.read s.ram (n % 256)).toNat
    (∀ o, (resolve o s).state = s) ∧
    readOperand (.imm b1) s = ⟨b1, false, s⟩ ∧
    (∀ o, (∀ b, o ≠ .imm b) → readOperand o s =
      ⟨(memRead (resolve o s).ea s).1, (resolve o s).crossed, (memRead (resolve o s).ea s).2⟩) ∧
    ((resolve (.zp b1) s).ea.toNat = b1.toNat ∧ (resolve (.zp b1) s).crossed = false) ∧
    ((resolve (.zpx b1) s).ea.toNat = (b1.toNat + s.x.toNat) % 256 ∧ (resolve (.zpx b1) s).crossed = false) ∧
    ((resolve (.zpy b1) s).ea.toNat = (b1.toNat + s.y.toNat) % 256 ∧ (resolve (.zpy b1) s).crossed = false) ∧
    ((resolve (.abs w) s).ea = w ∧ (resolve (.abs w) s).crossed = false) ∧
    (let ea := (w.toNat + s.x.toNat) % 65536
     (resolve (.absx w) s).ea.toNat = ea ∧ (resolve (.absx w) s).crossed = decide (ea / 256 ≠ w.toNat / 256)) ∧
    (let ea := (w.toNat + s.y.toNat) % 65536
     (resolve (.absy w) s).ea.toNat = ea ∧ (resolve (.absy w) s).crossed = decide (ea / 256 ≠ w.toNat / 256)) ∧
    (let z := b1.toNat + s.x.toNat
     (resolve (.indx b1) s).ea.toNat = cell z + 256 * cell (z + 1) ∧ (resolve (.indx b1) s).crossed = false) ∧
    (let base := cell b1.toNat + 256 * cell (b1.toNat + 1)
     let ea := (base + s.y.toNat) % 65536
     (resolve (.indy b1) s).ea.toNat = ea ∧ (resolve (.indy b1) s).crossed = decide (ea / 256 ≠ base / 256))

/-- LDA, LDX, LDY in every form complete: the register takes the operand, N and Z are set from it, nothing else changes but
what the operand's reads change; the opcode byte and the cycles are the rule's (40_load_store R131, R132, R133). -/
def Obligations.LoadsLoad : Prop :=
  ∀ (i : Instr) (r : Reg) (f : OperandForm) (s : State), loadForm i = some (r, f) →
    i.opcode = f.opcode ∧
    let o := readOperand f.operand s
    exec i s = .next { o.state.withReg r o.value with
      p := withNZ s.p o.value
      stepCycles := f.total o.crossed }

/-- STA, STX, STY in every form complete: one write of the register at the effective address; no flag, no register, never a
page-cross penalty (40_load_store R134, R135, R136). -/
def Obligations.StoresStore : Prop :=
  ∀ (i : Instr) (r : Reg) (f : OperandForm) (s : State), storeForm i = some (r, f) →
    i.opcode = f.opcode ∧
    exec i s = .next { memWrite (resolve f.operand s).ea (s.reg r) s with stepCycles := f.cycles }

/-- The six transfers complete in 2 cycles: the destination takes the source; N and Z are set from it, except by TXS, which
leaves the flags alone (41_transfer_stack R150 to R155). -/
def Obligations.TransfersMove : Prop :=
  ∀ (i : Instr) (src dst : Reg) (op : Byte) (s : State), transferForm i = some (src, dst, op) →
    encode i = [op] ∧
    exec i s = .next { s.withReg dst (s.reg src) with
      p := if dst = .sp then s.p else withNZ s.p (s.reg src)
      stepCycles := 2 }

/-- PHA, PHP, PLA, PLP complete: one byte of page 1 at the old S, then S one less; or S one more, then the byte of page 1 there,
both with wrap. PHP pushes the image with bits 5 and 4 set, PLA sets N and Z, PLP sets the six flags and ignores bits 5 and 4
(41_transfer_stack R156 to R159; 10_state R25, R27). -/
def Obligations.StackInstructions : Prop :=
  ∀ s : State,
    let v := Store.read s.ram (256 + (s.sp.toNat + 1) % 256)
    (encode .pha = [0x48#8] ∧ exec .pha s =
      .next { s with ram := Store.write s.ram (256 + s.sp.toNat) s.a, sp := s.sp - 1, stepCycles := 3 }) ∧
    (encode .php = [0x08#8] ∧ exec .php s = .next { s with
      ram := Store.write s.ram (256 + s.sp.toNat) (statusByte s.p true), sp := s.sp - 1, stepCycles := 3 }) ∧
    (encode .pla = [0x68#8] ∧ exec .pla s =
      .next { s with a := v, sp := s.sp + 1, p := withNZ s.p v, stepCycles := 4 }) ∧
    (encode .plp = [0x28#8] ∧ exec .plp s = .next { s with
      sp := s.sp + 1
      p := ⟨v.getLsbD 7, v.getLsbD 6, v.getLsbD 3, v.getLsbD 2, v.getLsbD 1, v.getLsbD 0⟩
      stepCycles := 4 })

/-! ## Arithmetic, logic, shifts, counts -/

/-- ADC, SBC, AND, ORA, EOR in every form complete: A takes the result in numbers, N and Z are set from it, C is the carry or
no-borrow, V is set exactly when the signed result is out of range; D plays no part and stays (42_arith_logic R170 to R174,
R179, R180). -/
def Obligations.AluComputes : Prop :=
  ∀ (i : Instr) (op : AluOp) (f : OperandForm) (s : State), aluForm i = some (op, f) →
    i.opcode = f.opcode ∧
    let o := readOperand f.operand s
    let r := aluResult op s.a o.value s.p.c s.p.v
    exec i s = .next { o.state with
      a := BitVec.ofNat 8 r.1
      p := { withNZ s.p (BitVec.ofNat 8 r.1) with c := r.2.1, v := r.2.2 }
      stepCycles := f.total o.crossed }

/-- CMP, CPX, CPY in every form complete: C says register at or above operand, Z equal, N bit 7 of the difference modulo 256;
the register, V, D, I stay. BIT in both forms completes: N and V are bits 7 and 6 of the operand, Z comes from the AND with A; A,
C, D, I stay (42_arith_logic R175, R176, R177, R178). -/
def Obligations.ComparesAndBitTest : Prop :=
  ∀ (i : Instr) (f : OperandForm) (s : State),
    let o := readOperand f.operand s
    (∀ r, compareForm i = some (r, f) →
      i.opcode = f.opcode ∧
      exec i s = .next { o.state with
        p := { s.p with
          c := decide (o.value.toNat ≤ (s.reg r).toNat)
          z := decide (s.reg r = o.value)
          n := decide (128 ≤ ((s.reg r).toNat + 256 - o.value.toNat) % 256) }
        stepCycles := f.total o.crossed }) ∧
    (bitForm i = some f →
      i.opcode = f.opcode ∧
      exec i s = .next { o.state with
        p := { s.p with z := decide (s.a &&& o.value = 0#8), n := o.value.getLsbD 7, v := o.value.getLsbD 6 }
        stepCycles := f.cycles })

/-- ASL, LSR, ROL, ROR, INC, DEC on memory complete in every form: one read and then one write of the result at the effective
address, with no page-cross penalty; C is the bit shifted out (INC and DEC keep it), V, D, I stay (43_shift_incdec R190 to
R195, R200). -/
def Obligations.ModifiesModify : Prop :=
  ∀ (i : Instr) (op : ByteOp) (f : OperandForm) (s : State), modifyForm i = some (op, f) →
    i.opcode = f.opcode ∧
    let ea := (resolve f.operand s).ea
    let m := memRead ea s
    let r := byteResult op m.1.toNat s.p.c
    exec i s = .next { memWrite ea (BitVec.ofNat 8 r.1) m.2 with
      p := { withNZ s.p (BitVec.ofNat 8 r.1) with c := r.2 }
      stepCycles := f.cycles }

/-- ASL, LSR, ROL, ROR on the accumulator complete in 2 cycles without a memory access (43_shift_incdec R190 to R193). -/
def Obligations.AccumulatorShifts : Prop :=
  ∀ (i : Instr) (op : ByteOp) (opcode : Byte) (s : State), accumulatorForm i = some (op, opcode) →
    encode i = [opcode] ∧
    let r := byteResult op s.a.toNat s.p.c
    exec i s = .next { s with
      a := BitVec.ofNat 8 r.1
      p := { withNZ s.p (BitVec.ofNat 8 r.1) with c := r.2 }
      stepCycles := 2 }

/-- INX, INY, DEX, DEY complete in 2 cycles: the register counts modulo 256, N and Z are set from it, C and V stay
(43_shift_incdec R196 to R199). -/
def Obligations.CountsCount : Prop :=
  ∀ (i : Instr) (r : Reg) (d op : Byte) (s : State), countForm i = some (r, d, op) →
    encode i = [op] ∧
    let v : Byte := BitVec.ofNat 8 (((s.reg r).toNat + d.toNat) % 256)
    exec i s = .next { s.withReg r v with p := withNZ s.p v, stepCycles := 2 }

/-! ## Control transfer, system, flags -/

/-- JMP completes: the absolute form goes to its operand; the indirect form reads the target's low byte at the pointer and the
high byte in the same page as the pointer (44_control R210; 30_encoding R118). -/
def Obligations.JumpsJump : Prop :=
  ∀ (w : Word) (s : State),
    encode (.jmpAbs w) = [0x4C#8, loByte w, hiByte w] ∧ encode (.jmpInd w) = [0x6C#8, loByte w, hiByte w] ∧
    exec (.jmpAbs w) s = .next { s with pc := w, stepCycles := 3 } ∧
    let l := memRead w s
    let h := memRead (BitVec.ofNat 16 (w.toNat / 256 * 256 + (w.toNat + 1) % 256)) l.2
    exec (.jmpInd w) s = .next { h.2 with pc := joinBytes h.1 l.1, stepCycles := 5 }

/-- JSR pushes the address of its last byte, high byte first, and goes to its operand; RTS pulls an address and goes one past it
(44_control R211, R212). -/
def Obligations.CallAndReturn : Prop :=
  ∀ (w : Word) (s : State),
    encode (.jsr w) = [0x20#8, loByte w, hiByte w] ∧ encode .rts = [0x60#8] ∧
    exec (.jsr w) s = .next { s with
      ram := Store.write (Store.write s.ram (256 + s.sp.toNat) (hiByte (s.pc - 1))) (256 + (s.sp - 1).toNat) (loByte (s.pc - 1))
      sp := s.sp - 2
      pc := w
      stepCycles := 6 } ∧
    exec .rts s = .next { s with
      sp := s.sp + 2
      pc := joinBytes (Store.read s.ram (256 + (s.sp + 2).toNat)) (Store.read s.ram (256 + (s.sp + 1).toNat)) + 1
      stepCycles := 6 }

/-- The eight branches complete: not taken 2 cycles and PC as it stands; taken, PC plus the signed offset modulo 65,536, 3
cycles in the page of the next instruction, 4 otherwise; no flag (44_control R213 to R221; 30_encoding R117). -/
def Obligations.BranchesBranch : Prop :=
  ∀ (i : Instr) (cond : Flags → Bool) (b1 op : Byte) (s : State), branchForm i = some (cond, b1, op) →
    encode i = [op, b1] ∧
    let target := BitVec.ofInt 16 (s.pc.toNat + b1.toInt)
    exec i s = .next
      (if cond s.p then
        { s with pc := target, stepCycles := if target.toNat / 256 = s.pc.toNat / 256 then 3 else 4 }
       else { s with stepCycles := 2 })

/-- BRK completes: PC one past the padding byte and the status with B = 1 are pushed, I is set, PC comes from `$FFFE`, 7
cycles; D stays and nothing else changes (45_system_flags R230). -/
def Obligations.BrkTraps : Prop :=
  ∀ s : State, encode .brk = [0x00#8] ∧
    exec .brk s = .next { s with
      ram := Store.write (Store.write (Store.write s.ram (256 + s.sp.toNat) (hiByte (s.pc + 1)))
        (256 + (s.sp - 1).toNat) (loByte (s.pc + 1))) (256 + (s.sp - 2).toNat) (statusByte s.p true)
      sp := s.sp - 3
      p := { s.p with i := true }
      pc := joinBytes (prgRead s 0xFFFF) (prgRead s 0xFFFE)
      stepCycles := 7 }

/-- RTI completes: the six flags from the byte pulled first, then PC with nothing added, S three more, 6 cycles
(45_system_flags R231). -/
def Obligations.RtiRestores : Prop :=
  ∀ s : State, encode .rti = [0x40#8] ∧
    let v := Store.read s.ram (256 + (s.sp + 1).toNat)
    exec .rti s = .next { s with
      p := ⟨v.getLsbD 7, v.getLsbD 6, v.getLsbD 3, v.getLsbD 2, v.getLsbD 1, v.getLsbD 0⟩
      sp := s.sp + 3
      pc := joinBytes (Store.read s.ram (256 + (s.sp + 3).toNat)) (Store.read s.ram (256 + (s.sp + 2).toNat))
      stepCycles := 6 }

/-- RTI undoes an interrupt entry and a BRK: after an NMI or IRQ entry it resumes at the interrupted PC with the flags of then, I
included; after a BRK it resumes at the BRK's address plus 2 (60_exceptions R256, R257, R259; 45_system_flags R230, R231). -/
def Obligations.RtiUndoesEntry : Prop :=
  ∀ s : State,
    (s.cyclesToHalt = 0 → s.resetMark = false →
      s.nmiPending = true ∨ s.nmiPending = false ∧ s.irqPending = true ∧ s.p.i = false →
      ∃ t u, emulate s = .next t ∧ exec .rti t = .next u ∧
        u.pc = s.pc ∧ u.p = s.p ∧ u.sp = s.sp ∧ u.a = s.a ∧ u.x = s.x ∧ u.y = s.y) ∧
    ∃ t u, exec .brk s = .next t ∧ exec .rti t = .next u ∧
      u.pc = s.pc + 1 ∧ u.p = s.p ∧ u.sp = s.sp ∧ u.a = s.a ∧ u.x = s.x ∧ u.y = s.y

/-- The seven flag instructions complete in 2 cycles and change their one flag only (45_system_flags R232 to R238). -/
def Obligations.FlagInstructions : Prop :=
  ∀ (i : Instr) (g : Flags → Flags) (op : Byte) (s : State), flagForm i = some (g, op) →
    encode i = [op] ∧ exec i s = .next { s with p := g s.p, stepCycles := 2 }

/-- NOP completes and changes nothing but the cycle count, 2; so do the undocumented opcodes of every shape with the shape's
cycles, making no data access; under the policy `refuse` each is refused by opcode when it is reached, which is the model's
choice where the rules speak of refusing the program (45_system_flags R239, R240; 30_encoding R122; log 12). -/
def Obligations.NoOperations : Prop :=
  ∀ s : State,
    (encode .nop = [0xEA#8] ∧ exec .nop s = .next { s with stepCycles := 2 }) ∧
    ∀ (i : Instr) (op : Byte) (c : Nat), undocumentedForm i = some (op, c) →
      (s.cfg.illegalPolicy = .nop → exec i s = .next { s with stepCycles := c }) ∧
      (s.cfg.illegalPolicy = .refuse → exec i s = .refused (.undocumentedOpcode op))

/-! ## Frames -/

/-- Which instruction may write which register and flag, as the register rules list them: any other instruction leaves it
unchanged; and no instruction changes a latch, the reset mark, a parameter, the ROM, the inputs or the run state
(10_state R23 to R28; 60_exceptions R253). -/
def Obligations.RegisterFrame : Prop :=
  ∀ (i : Instr) (s t : State), exec i s = .next t →
    (writesA i = false → t.a = s.a) ∧ (writesX i = false → t.x = s.x) ∧ (writesY i = false → t.y = s.y) ∧
    (writesS i = false → t.sp = s.sp) ∧ (writesPc i = false → t.pc = s.pc) ∧
    (writesNZ i = false → t.p.n = s.p.n ∧ t.p.z = s.p.z) ∧ (writesC i = false → t.p.c = s.p.c) ∧
    (writesV i = false → t.p.v = s.p.v) ∧ (writesI i = false → t.p.i = s.p.i) ∧ (writesD i = false → t.p.d = s.p.d) ∧
    t.nmiPending = s.nmiPending ∧ t.irqPending = s.irqPending ∧ t.resetMark = s.resetMark ∧
    t.runState = s.runState ∧ t.breakpointCycles = s.breakpointCycles ∧ t.inputs = s.inputs ∧ t.rom = s.rom ∧
    t.cfg = s.cfg ∧ t.inFrame = s.inFrame ∧ t.samples = s.samples

/-- An instruction that stores nothing leaves every byte of every memory as it was, and the mapper, the strobe and the stall
counter; of the PPU and the APU only what a read of `$2002`, `$2007` or `$4015` changes may change (20_memory R77; 40_load_store
R130). -/
def Obligations.NonStoringFrame : Prop :=
  ∀ (i : Instr) (s t : State), storesToMemory i = false → exec i s = .next t →
    (∀ j, Store.read t.ram j = Store.read s.ram j) ∧
    (∀ j, Store.read t.mapper.prgRam j = Store.read s.mapper.prgRam j) ∧
    (∀ j, Store.read t.mapper.chrRam j = Store.read s.mapper.chrRam j) ∧
    (∀ j, Store.read t.ppu.oam j = Store.read s.ppu.oam j) ∧
    (∀ j, Store.read t.ppu.nametableRam j = Store.read s.ppu.nametableRam j) ∧
    (∀ j, Store.read t.ppu.paletteRam j = Store.read s.ppu.paletteRam j) ∧
    (∀ a, prgRead t a = prgRead s a) ∧
    t.mapper = s.mapper ∧ t.strobe = s.strobe ∧ t.cyclesToHalt = s.cyclesToHalt ∧
    t.ppu = { s.ppu with vblank := t.ppu.vblank, w := t.ppu.w, readBuffer := t.ppu.readBuffer, v := t.ppu.v } ∧
    t.apu = { s.apu with frameIrqFlag := t.apu.frameIrqFlag }

/-- A store or a read-modify-write, with its address computed by `resolve`: every byte of internal RAM and of cartridge RAM but
the one the address selects is as before; the PPU's memories change only through a PPU register or the DMA register; the
mapper's registers and windows only through `$8000` and above (20_memory R62, R69, R70; 40_load_store R134; 43_shift_incdec
R200). -/
def Obligations.StoreFrame : Prop :=
  ∀ (i : Instr) (o : Operand) (s t : State),
    ((∃ r f, storeForm i = some (r, f) ∧ f.operand = o) ∨ (∃ b f, modifyForm i = some (b, f) ∧ f.operand = o)) →
    exec i s = .next t →
    let ea := (resolve o s).ea
    (∀ j, busTarget ea ≠ .ram j → Store.read t.ram j = Store.read s.ram j) ∧
    (∀ j, busTarget ea ≠ .cartRam j → Store.read t.mapper.prgRam j = Store.read s.mapper.prgRam j) ∧
    ((∀ r, busTarget ea ≠ .ppuReg r) →
      (∀ j, Store.read t.ppu.nametableRam j = Store.read s.ppu.nametableRam j) ∧
      (∀ j, Store.read t.ppu.paletteRam j = Store.read s.ppu.paletteRam j) ∧
      (∀ j, Store.read t.mapper.chrRam j = Store.read s.mapper.chrRam j) ∧
      (busTarget ea ≠ .oamDma → ∀ j, Store.read t.ppu.oam j = Store.read s.ppu.oam j)) ∧
    (busTarget ea ≠ .prg → t.mapper.regs = s.mapper.regs ∧ t.mapper.prgWin = s.mapper.prgWin ∧
      t.mapper.chrWin = s.mapper.chrWin ∧ ∀ a, prgRead t a = prgRead s a) ∧
    (busTarget ea ≠ .oamDma → t.cyclesToHalt = s.cyclesToHalt)

/-! ## The bus -/

/-- Internal RAM and its mirrors: a read in `$0000-$1FFF` returns the byte of the address modulo 2,048, a write sets it, and
neither has any other effect; so a read after a write returns the value exactly at the mirrors of the address (20_memory R62). -/
def Obligations.RamIsMirrored : Prop :=
  ∀ (a b : Word) (v : Byte) (s : State), a.toNat < 0x2000 → b.toNat < 0x2000 →
    memRead b s = (Store.read s.ram (b.toNat % 2048), s) ∧
    memWrite a v s = { s with ram := Store.write s.ram (a.toNat % 2048) v } ∧
    memRead b (memWrite a v s) =
      (if b.toNat % 2048 = a.toNat % 2048 then v else (memRead b s).1, memWrite a v s)

/-- A read where nothing answers, or of a write-only register, returns the next draw and has no other effect; a write where
nothing answers is a no-op (20_memory R64, R65, R67, R68, R72, R73; 50_ppu R328). -/
def Obligations.OpenBusReads : Prop :=
  ∀ (a : Word) (v : Byte) (s : State),
    (((∃ r, isPpuRegister a r ∧ r ≠ 2 ∧ r ≠ 4 ∧ r ≠ 7) ∨ (0x4000 ≤ a.toNat ∧ a.toNat ≤ 0x4014) ∨
      (0x4018 ≤ a.toNat ∧ a.toNat < 0x6000)) →
      memRead a s = (Config.openBus s.draws, { s with draws := s.draws + 1 })) ∧
    (0x4018 ≤ a.toNat → a.toNat < 0x6000 → memWrite a v s = s)

/-- Reads without side effect: outside `$2002`, `$2007` and their mirrors, `$4015`, `$4016`, `$4017`, a read changes nothing
but the number of draws taken (20_memory R77). -/
def Obligations.OtherReadsChangeNothing : Prop :=
  ∀ (a : Word) (s : State), ¬ isPpuRegister a 2 → ¬ isPpuRegister a 7 →
    a ≠ 0x4015#16 → a ≠ 0x4016#16 → a ≠ 0x4017#16 →
    (memRead a s).2 = { s with draws := (memRead a s).2.draws }

/-- A write at `$8000` and above changes no memory; on NROM it changes nothing at all (20_memory R70; 52_mappers R425). -/
def Obligations.RomWritesChangeNoMemory : Prop :=
  ∀ (a : Word) (v : Byte) (s : State), 0x8000 ≤ a.toNat →
    (memWrite a v s).ram = s.ram ∧ (memWrite a v s).rom = s.rom ∧ (memWrite a v s).mapper.prgRam = s.mapper.prgRam ∧
    (memWrite a v s).mapper.chrRam = s.mapper.chrRam ∧ (memWrite a v s).ppu.oam = s.ppu.oam ∧
    (memWrite a v s).ppu.nametableRam = s.ppu.nametableRam ∧ (memWrite a v s).ppu.paletteRam = s.ppu.paletteRam ∧
    (s.mapper.regs = .nrom → memWrite a v s = s)

/-- Sprite DMA from a page of internal RAM: byte `i` of the page goes to OAM at `oamAddr + i` modulo 256, `oamAddr` stays, the
stall is added, and nothing else changes (50_ppu R329; 20_memory R65, R86). -/
def Obligations.SpriteDmaCopies : Prop :=
  ∀ (page : Byte) (s : State), page.toNat < 0x20 →
    let t := memWrite 0x4014#16 page s
    (∀ i, i < 256 → Store.read t.ppu.oam ((s.ppu.oamAddr.toNat + i) % 256) =
      Store.read s.ram ((page.toNat * 256 + i) % 2048)) ∧
    t = { s with ppu := { s.ppu with oam := t.ppu.oam }, cyclesToHalt := s.cyclesToHalt + s.cfg.oamDmaStall }

/-! ## The PPU -/

/-- `$2002` and its mirrors: the three flags over five drawn bits; VBlank and the write toggle are cleared, nothing else; a
write is a no-op (50_ppu R322; 20_memory R63, R72). -/
def Obligations.StatusRegister : Prop :=
  ∀ (a : Word) (v : Byte) (s : State), isPpuRegister a 2 →
    (memRead a s).1.getLsbD 7 = s.ppu.vblank ∧ (memRead a s).1.getLsbD 6 = s.ppu.spr0Hit ∧
    (memRead a s).1.getLsbD 5 = s.ppu.sprOverflow ∧
    (memRead a s).1.extractLsb' 0 5 = (Config.openBus s.draws).extractLsb' 0 5 ∧
    (memRead a s).2 = { s with draws := s.draws + 1, ppu := { s.ppu with vblank := false, w := false } } ∧
    memWrite a v s = s

/-- `$2005` and `$2006`, two writes each under one toggle: the fields of `t`, the fine X scroll, and `v` after the second
`$2006` write; a read returns open bus (50_ppu R325, R326). -/
def Obligations.ScrollAndAddressWrites : Prop :=
  ∀ (a : Word) (v : Byte) (s : State),
    (isPpuRegister a 5 ∨ isPpuRegister a 6 → memRead a s = (Config.openBus s.draws, { s with draws := s.draws + 1 })) ∧
    (isPpuRegister a 5 → s.ppu.w = false → ∃ t : BitVec 15,
      memWrite a v s = { s with ppu := { s.ppu with t := t, fineX := v.extractLsb' 0 3, w := true } } ∧
      t.extractLsb' 0 5 = v.extractLsb' 3 5 ∧ t.extractLsb' 5 10 = s.ppu.t.extractLsb' 5 10) ∧
    (isPpuRegister a 5 → s.ppu.w = true → ∃ t : BitVec 15,
      memWrite a v s = { s with ppu := { s.ppu with t := t, w := false } } ∧
      t.extractLsb' 12 3 = v.extractLsb' 0 3 ∧ t.extractLsb' 5 5 = v.extractLsb' 3 5 ∧
      t.extractLsb' 0 5 = s.ppu.t.extractLsb' 0 5 ∧ t.extractLsb' 10 2 = s.ppu.t.extractLsb' 10 2) ∧
    (isPpuRegister a 6 → s.ppu.w = false → ∃ t : BitVec 15,
      memWrite a v s = { s with ppu := { s.ppu with t := t, w := true } } ∧
      t.extractLsb' 8 6 = v.extractLsb' 0 6 ∧ t.getLsbD 14 = false ∧ t.extractLsb' 0 8 = s.ppu.t.extractLsb' 0 8) ∧
    (isPpuRegister a 6 → s.ppu.w = true → ∃ t : BitVec 15,
      memWrite a v s = { s with ppu := { s.ppu with t := t, v := t, w := false } } ∧
      t.extractLsb' 0 8 = v ∧ t.extractLsb' 8 7 = s.ppu.t.extractLsb' 8 7)

/-- `$2007`: reads below `$3F00` return the buffer and refill it, palette reads return the entry at once under two drawn bits
and buffer the byte under the palette; reads and writes move `v` by 1 or 32 modulo 32,768 (50_ppu R327). -/
def Obligations.DataPort : Prop :=
  ∀ (a : Word) (val : Byte) (s : State), isPpuRegister a 7 →
    let va := s.ppu.v.toNat % 0x4000
    let nv := BitVec.ofNat 15 (s.ppu.v.toNat + (if s.ppu.ctrl.getLsbD 2 then 32 else 1))
    (va < 0x3F00 →
      memRead a s = (s.ppu.readBuffer, { s with ppu := { s.ppu with readBuffer := ppuRead s va, v := nv } })) ∧
    (0x3F00 ≤ va →
      (memRead a s).1.extractLsb' 0 6 = Store.read s.ppu.paletteRam (palIndex va) ∧
      (memRead a s).1.extractLsb' 6 2 = (Config.openBus s.draws).extractLsb' 6 2 ∧
      (memRead a s).2 = { s with
        draws := s.draws + 1, ppu := { s.ppu with readBuffer := ppuRead s (va - 0x1000), v := nv } }) ∧
    memWrite a val s = { ppuWrite s va val with ppu := { (ppuWrite s va val).ppu with v := nv } }

/-- The NMI debounce: with a frame end requested and `k + 1` left in the counter, and no scanline ending before, the next `k`
dots end no frame; the dot after them ends it, clears the request, leaves the position, and raises the NMI exactly when
PPUCTRL bit 7 is set (50_ppu R303, R306, R307). -/
def Obligations.NmiDebounce : Prop :=
  ∀ (k : Nat) (s : State), s.ppu.requestEndFrame = true → s.ppu.nmiCounter = k + 1 → s.ppu.curX + k < 341 →
    (∀ j, j < k → (ppuDot (dotsAfter j s)).1 = false) ∧
    let r := ppuDot (dotsAfter k s)
    r.1 = true ∧ r.2.ppu.requestEndFrame = false ∧ r.2.ppu.curX = s.ppu.curX + k ∧
    r.2.nmiPending = (s.nmiPending || s.ppu.ctrl.getLsbD 7)

/-- The length of a frame: from scanline 0 dot 0 with no frame end requested and no odd-frame skip, every scanline of the frame
(262 by default) at 341 dots and then the debounce: the last of these dots ends the frame and none before it does (50_ppu R302,
R304, R306; log 21). -/
def Obligations.FrameLength : Prop :=
  ∀ s : State, 0 < s.cfg.scanlinesPerFrame → s.cfg.oddFrameSkip = false →
    1 ≤ s.cfg.nmiDelayDots → s.cfg.nmiDelayDots ≤ s.cfg.scanlinesPerFrame * 341 →
    s.ppu.scanline = 0 → s.ppu.curX = 0 → s.ppu.requestEndFrame = false →
    let last := s.cfg.scanlinesPerFrame * 341 + s.cfg.nmiDelayDots - 1
    (∀ j, j < last → (ppuDot (dotsAfter j s)).1 = false) ∧ (ppuDot (dotsAfter last s)).1 = true

/-- The sprite-0 flag rises only at the configured position with sprites shown, and falls only at a dot that ends scanline 19
(50_ppu R303, R305, R308). -/
def Obligations.SpriteZeroFlag : Prop :=
  ∀ s : State,
    ((ppuDot s).2.ppu.spr0Hit = true → s.ppu.spr0Hit = true ∨
      (s.ppu.mask.getLsbD 4 = true ∧ s.ppu.spr0HitX = some s.ppu.curX ∧ ∃ y, s.ppu.spr0HitY = some y ∧ y + 21 = s.ppu.scanline)) ∧
    (s.ppu.spr0Hit = true → (ppuDot s).2.ppu.spr0Hit = false → s.ppu.scanline = 19 ∧ s.ppu.curX = 340)

/-! ## The APU -/

/-- After every CPU step the APU requests an IRQ exactly when one of its two flags is then set, and an earlier request is
absorbed (51_apu R385, R389; 60_exceptions R253). -/
def Obligations.ApuRequestsIrq : Prop :=
  ∀ (n : Nat) (s : State),
    (clockFrameCounter n s).irqPending =
      (s.irqPending || (clockFrameCounter n s).apu.frameIrqFlag || (clockFrameCounter n s).apu.dmc.dmcIrqFlag)

/-- The frame sequencer steps once in every period of CPU cycles and at no other cycle, and the sequence has four or five steps
(51_apu R385, R386, R387). -/
def Obligations.SequencerPeriod : Prop :=
  ∀ (k : Nat) (s : State), s.cfg.frameSeqPeriod = k + 1 → s.apu.seqCycles = 0 →
    (∀ j, j ≤ k → (apuCycles j s).apu.seqStep = s.apu.seqStep) ∧
    (apuCycles (k + 1) s).apu.seqStep = (s.apu.seqStep + 1) % (if s.apu.seqMode then 5 else 4) ∧
    (apuCycles (k + 1) s).apu.seqCycles = 0

/-- Sound on or off changes nothing but the samples handed out: every other part of the state evolves alike (51_apu R410). -/
def Obligations.SoundChangesOnlySamples : Prop :=
  ∀ (n : Nat) (b : Bool) (s : State),
    let mute := fun u : State => { u with inputs := { u.inputs with soundEnabled := b } }
    clockFrameCounter n (mute s) =
      { mute (clockFrameCounter n s) with samples := (clockFrameCounter n (mute s)).samples }

/-- The number of samples: one for every time the accumulator passes `CPU_HZ` (51_apu R409). -/
def Obligations.SampleCount : Prop :=
  ∀ (n : Nat) (s : State), s.inputs.soundEnabled = true → s.cfg.sampleRate ≤ s.cfg.cpuHz →
    s.apu.sampleAcc < s.cfg.cpuHz →
    (apuCycles n s).samples.length = s.samples.length + (s.apu.sampleAcc + n * s.cfg.sampleRate) / s.cfg.cpuHz ∧
    (apuCycles n s).apu.sampleAcc = (s.apu.sampleAcc + n * s.cfg.sampleRate) % s.cfg.cpuHz

/-- `$4015`: a read reports the flags and the running channels and clears only the frame interrupt flag; a write of 0 silences
every channel and clears the DMC flag (51_apu R383). -/
def Obligations.ApuStatusRegister : Prop :=
  ∀ s : State,
    (let r := memRead 0x4015#16 s
     r.1.getLsbD 7 = s.apu.dmc.dmcIrqFlag ∧ r.1.getLsbD 6 = s.apu.frameIrqFlag ∧
     r.1.getLsbD 4 = decide (0 < s.apu.dmc.bytesRemaining) ∧ r.1.getLsbD 3 = decide (0 < s.apu.noise.length) ∧
     r.1.getLsbD 2 = decide (0 < s.apu.triangle.length) ∧ r.1.getLsbD 1 = decide (0 < s.apu.pulse2.length) ∧
     r.1.getLsbD 0 = decide (0 < s.apu.pulse1.length) ∧
     r.2 = { s with draws := s.draws + 1, apu := { s.apu with frameIrqFlag := false } }) ∧
    let t := memWrite 0x4015#16 0x00#8 s
    t.apu.pulse1.length = 0 ∧ t.apu.pulse2.length = 0 ∧ t.apu.triangle.length = 0 ∧ t.apu.noise.length = 0 ∧
    t.apu.pulse1.enabled = false ∧ t.apu.pulse2.enabled = false ∧ t.apu.triangle.enabled = false ∧
    t.apu.noise.enabled = false ∧ t.apu.dmc.bytesRemaining = 0 ∧ t.apu.dmc.dmcIrqFlag = false ∧ t.ram = s.ram

/-! ## The mappers -/

/-- The MMC1 serial port: five writes with bit 7 clear put the five bits, first bit lowest, into the register the fifth address
selects, and into no other; that a load of the control register, and no other load, sets the model's flag `controlLoaded` is the
model's choice (52_mappers R432, R435; log 14). -/
def Obligations.Mmc1SerialLoad : Prop :=
  ∀ (a1 a2 a3 a4 a5 : Word) (v1 v2 v3 v4 v5 : Byte) (r : Mmc1) (s : State),
    s.mapper.regs = .mmc1 r → r.shiftReg = 0#5 → r.shiftCount = 0 →
    0x8000 ≤ a1.toNat → 0x8000 ≤ a2.toNat → 0x8000 ≤ a3.toNat → 0x8000 ≤ a4.toNat → 0x8000 ≤ a5.toNat →
    v1.getLsbD 7 = false → v2.getLsbD 7 = false → v3.getLsbD 7 = false → v4.getLsbD 7 = false → v5.getLsbD 7 = false →
    let v : BitVec 5 := v5.extractLsb' 0 1 ++ v4.extractLsb' 0 1 ++ v3.extractLsb' 0 1 ++ v2.extractLsb' 0 1 ++ v1.extractLsb' 0 1
    (writesAfter [(a1, v1), (a2, v2), (a3, v3), (a4, v4), (a5, v5)] s).mapper.regs =
      .mmc1 (if a5.toNat < 0xA000 then { r with control := v, controlLoaded := true }
        else if a5.toNat < 0xC000 then { r with chrBank0 := v }
        else if a5.toNat < 0xE000 then { r with chrBank1 := v }
        else { r with prgBank := v })

/-- An MMC1 write with bit 7 set empties the serial port and forces PRG mode 3, whatever came before, and no bank register
changes; that it also leaves the model's flag `controlLoaded` as it was is the model's choice (52_mappers R436; log 14). -/
def Obligations.Mmc1ResetWrite : Prop :=
  ∀ (a : Word) (val : Byte) (r : Mmc1) (s : State), s.mapper.regs = .mmc1 r → 0x8000 ≤ a.toNat → val.getLsbD 7 = true →
    ∃ c : BitVec 5,
      (memWrite a val s).mapper.regs = .mmc1 { r with shiftReg := 0#5, shiftCount := 0, control := c } ∧
      c.extractLsb' 2 2 = 3#2 ∧ c.extractLsb' 0 2 = r.control.extractLsb' 0 2 ∧ c.getLsbD 4 = r.control.getLsbD 4

/-- MMC3: a bank-select value and then a bank-data value set the slot the low three bits name and no other slot
(52_mappers R450, R451, R452). -/
def Obligations.Mmc3BankData : Prop :=
  ∀ (a1 a2 : Word) (b d : Byte) (r : Mmc3) (s : State), s.mapper.regs = .mmc3 r →
    0x8000 ≤ a1.toNat → a1.toNat < 0xA000 → a1.toNat % 2 = 0 → 0x8000 ≤ a2.toNat → a2.toNat < 0xA000 → a2.toNat % 2 = 1 →
    ∃ q : Mmc3, (writesAfter [(a1, b), (a2, d)] s).mapper.regs = .mmc3 q ∧ q.bankSelect = b ∧
      (∀ k : Fin 8, q.banks.get k = if k.val = b.toNat % 8 then d else r.banks.get k) ∧
      q.prgRamProtect = r.prgRamProtect ∧ q.irqLatchValue = r.irqLatchValue ∧ q.irqCounter = r.irqCounter ∧
      q.irqReload = r.irqReload ∧ q.irqEnable = r.irqEnable

/-- The MMC3 counter after a reload write: clock `k + 1` leaves the latch value minus `k`, and the request comes at the clock
that reaches 0, not before (52_mappers R456, R458, R462). -/
def Obligations.Mmc3CounterRequestsOnce : Prop :=
  ∀ (k : Nat) (r : Mmc3) (s : State), s.mapper.regs = .mmc3 r → r.irqReload = true → r.irqEnable = true →
    k ≤ r.irqLatchValue.toNat →
    (∃ q, (clocksAfter (k + 1) s).mapper.regs = .mmc3 q ∧ q.irqCounter.toNat = r.irqLatchValue.toNat - k) ∧
    (clocksAfter (k + 1) s).irqPending = (s.irqPending || decide (k = r.irqLatchValue.toNat))

/-! ## Invariants every step keeps -/

/-- Every memory keeps its canonical form over every step (log 3). -/
def Obligations.MemoriesStayCanonical : Prop :=
  ∀ s t : State, s.canonical = true → step s = .next t → t.canonical = true

/-- The raster position stays inside the frame over every step, and a requested frame end stays to come (50_ppu R310). -/
def Obligations.RasterStaysInFrame : Prop :=
  ∀ s t : State, s.rasterOk = true → step s = .next t → t.rasterOk = true

/-- Every bank window stays on a bank the image has, over every step, so every access stays inside the image
(52_mappers R422, R423, R441, R460, R461). -/
def Obligations.WindowsStayInImage : Prop :=
  ∀ s t : State, s.windowsOk = true → step s = .next t → t.windowsOk = true

/-- The three invariants hold right after reset, the model's reset state (log 1, log 3). -/
def Obligations.ResetMeetsInvariants : Prop :=
  State.reset.canonical = true ∧ State.reset.rasterOk = true ∧ State.reset.windowsOk = true

/-! ## The orchestrator -/

/-- The controller ports: after the strobe is raised and lowered, read number `k` returns button `k` for the first eight reads
and 1 from then on, on each port (53_orchestrator R500, R501, R502). -/
def Obligations.ControllerReads : Prop :=
  ∀ (k : Nat) (v w : Byte) (s : State), v.getLsbD 0 = true → w.getLsbD 0 = false →
    let ready := memWrite 0x4016#16 w (memWrite 0x4016#16 v s)
    (memRead 0x4016#16 (readsAfter 0x4016#16 k ready)).1.getLsbD 0 =
      (if k < 8 then s.inputs.buttons0.getLsbD k else true) ∧
    (memRead 0x4017#16 (readsAfter 0x4017#16 k ready)).1.getLsbD 0 =
      (if k < 8 then s.inputs.buttons1.getLsbD k else true)

/-- A break changes nothing but the run state and the dots kept for later: resuming without a further break gives exactly what
the unbroken dot run gives (53_orchestrator R481, R482). -/
def Obligations.ResumeIsExact : Prop :=
  ∀ (n : Nat) (s : State), s.runState = .running → s.inFrame = true → s.breakpointCycles = 0 →
    let unbroken := fun u : State => { u with inputs := { u.inputs with brk := .never } }
    (runDots n s).runState = .midFrameBreak →
    resumeFrame (unbroken (runDots n s)) = runDots n (unbroken s)

/-- A savestate taken between frame calls restores every state element on any machine with the same mapper, whatever that
machine held: only its parameters, inputs and outputs stay its own, and the arrays that must fit are those of that machine, as
the model chooses (53_orchestrator R485 to R492; log 19, log 25). -/
def Obligations.SavestateRoundTrip : Prop :=
  ∀ m s : State, m.inFrame = false → m.runState ≠ .unloaded → s.inFrame = false → s.runState ≠ .unloaded →
    m.mapper.regs.tag = s.rom.mapperId → (capture m).lengthsFit s.rom = true →
    ∃ r, toJson m = .ok r ∧ fromJson r s = .ok { m with
      inputs := s.inputs, rom := s.rom, cfg := s.cfg, draws := s.draws, stepCycles := s.stepCycles, inFrame := s.inFrame,
      samples := s.samples }

/-- Every frame call ends, at a frame end or at a break, within a number of steps
taken from the spec's bound, the model's choice (53_orchestrator R484; log 23). -/
def Obligations.FrameCallEnds : Prop :=
  ∀ s : State, (s.runState = .running ∨ s.runState = .midFrameBreak) → s.cfg.illegalPolicy = .nop → s.rasterOk = true →
    0 < s.cfg.stallChunk → s.cfg.nmiDelayDots < s.cfg.scanlinesPerFrame * 341 →
    ∃ t, frame (frameFuel s) s = .frameDone t ∨ frame (frameFuel s) s = .broke t

end Statements
end

