-- ==== Sys2Proof/Laws/Memory.lean ====
section
/-! SUPPORT. The laws of sparse stores: what a write does to every cell, and that every operation keeps the canonical form. -/

namespace Sys2Proof.Machine

variable {w : Nat}

theorem store_read_erase (m : Store w) (i j : Nat) :
    Store.read (Store.erase m i) j = if j = i then Store.unlisted else Store.read m j := by
  induction m with
  | nil => simp [Store.erase, Store.read]
  | cons e rest ih =>
    obtain ⟨k, v⟩ := e
    unfold Store.erase at *
    by_cases hk : k = i
    · subst hk
      by_cases hj : j = k <;> simp_all [Store.read]
    · by_cases hj : j = k
      · subst hj; simp [Store.read, hk]
      · simp [Store.read, hk, hj, ih]

theorem store_read_insert (m : Store w) (i : Nat) (b : BitVec w) (j : Nat) (h : Store.read m i = Store.unlisted)
    (hm : ∀ e ∈ m, e.1 ≠ i) :
    Store.read (Store.insert m i b) j = if j = i then b else Store.read m j := by
  induction m with
  | nil => simp [Store.insert, Store.read]
  | cons e rest ih =>
    obtain ⟨k, v⟩ := e
    have hk : k ≠ i := hm (k, v) (by simp)
    have hr : ∀ e ∈ rest, e.1 ≠ i := fun e he => hm e (by simp [he])
    simp only [Store.insert]
    split
    · simp [Store.read]
    · by_cases hj : j = k
      · subst hj; simp [Store.read, hk]
      · have h' : Store.read rest i = Store.unlisted := by
          simpa [Store.read, Ne.symm hk] using h
        simp [Store.read, hj, ih h' hr]

theorem store_erase_ne (m : Store w) (i : Nat) : ∀ e ∈ Store.erase m i, e.1 ≠ i := by
  intro e he
  simpa [Store.erase] using (List.mem_filter.mp he).2

/-- After a write of one cell: that cell holds the value, every other cell is as before. -/
theorem store_read_write (m : Store w) (i : Nat) (b : BitVec w) (j : Nat) :
    Store.read (Store.write m i b) j = if j = i then b else Store.read m j := by
  unfold Store.write
  split
  · next h => rw [store_read_erase]; split <;> simp_all
  · rw [store_read_insert _ _ _ _ _ (store_erase_ne m i)]
    · rw [store_read_erase]; split <;> simp_all
    · simp [store_read_erase]

@[simp] theorem store_read_write_same (m : Store w) (i : Nat) (b : BitVec w) :
    Store.read (Store.write m i b) i = b := by simp [store_read_write]

theorem store_read_write_other (m : Store w) (i j : Nat) (b : BitVec w) (h : j ≠ i) :
    Store.read (Store.write m i b) j = Store.read m j := by simp [store_read_write, h]

/-- A lower bound may be weakened. -/
theorem store_wfFrom_mono (m : Store w) (l l' : Nat) (h : Store.wfFrom (some l) m = true) (hl : l' ≤ l) :
    Store.wfFrom (some l') m = true := by
  cases m with
  | nil => rfl
  | cons e rest =>
    obtain ⟨k, v⟩ := e
    simp only [Store.wfFrom, Bool.and_eq_true, decide_eq_true_eq] at *
    exact ⟨⟨by omega, h.1.2⟩, h.2⟩

theorem store_wfFrom_none (m : Store w) (l : Nat) (h : Store.wfFrom (some l) m = true) : Store.wfFrom none m = true := by
  cases m with
  | nil => rfl
  | cons e rest =>
    obtain ⟨k, v⟩ := e
    simp only [Store.wfFrom, Bool.and_eq_true, decide_eq_true_eq] at *
    exact ⟨⟨trivial, h.1.2⟩, h.2⟩

theorem store_wfFrom_erase (m : Store w) (i : Nat) (low : Option Nat) (h : Store.wfFrom low m = true) :
    Store.wfFrom low (Store.erase m i) = true := by
  induction m generalizing low with
  | nil => simp [Store.erase, Store.wfFrom]
  | cons e rest ih =>
    obtain ⟨k, v⟩ := e
    simp only [Store.wfFrom, Bool.and_eq_true] at h
    by_cases hk : k = i
    · subst hk
      have he : Store.erase ((k, v) :: rest) k = Store.erase rest k := by simp [Store.erase]
      rw [he]
      cases low with
      | none => exact ih none (store_wfFrom_none _ k h.2)
      | some l => exact ih (some l) (store_wfFrom_mono _ k l h.2 (by have := h.1.1; simp at this; omega))
    · have he : Store.erase ((k, v) :: rest) i = (k, v) :: Store.erase rest i := by simp [Store.erase, hk]
      rw [he]
      simp only [Store.wfFrom, Bool.and_eq_true]
      exact ⟨h.1, ih _ h.2⟩

theorem store_wfFrom_insert (m : Store w) (i : Nat) (b : BitVec w) (low : Option Nat) (h : Store.wfFrom low m = true)
    (hm : ∀ e ∈ m, e.1 ≠ i) (hb : b ≠ Store.unlisted) (hl : ∀ l, low = some l → l < i) :
    Store.wfFrom low (Store.insert m i b) = true := by
  induction m generalizing low with
  | nil => cases low <;> simp_all [Store.insert, Store.wfFrom]
  | cons e rest ih =>
    obtain ⟨k, v⟩ := e
    have hk : k ≠ i := hm (k, v) (by simp)
    simp only [Store.wfFrom, Bool.and_eq_true] at h
    simp only [Store.insert]
    split
    · next hik =>
      simp only [Store.wfFrom, Bool.and_eq_true]
      refine ⟨⟨?_, by simpa using hb⟩, ⟨by simpa using hik, h.1.2⟩, h.2⟩
      cases low <;> simp_all
    · next hik =>
      simp only [Store.wfFrom, Bool.and_eq_true]
      refine ⟨h.1, ih _ h.2 (fun e he => hm e (by simp [he])) ?_⟩
      intro l hl'
      have : k = l := by simpa using hl'
      omega

/-- A write keeps the canonical form. -/
theorem store_wf_write (m : Store w) (i : Nat) (b : BitVec w) (h : Store.wf m = true) :
    Store.wf (Store.write m i b) = true := by
  unfold Store.wf Store.write at *
  split
  · exact store_wfFrom_erase _ _ _ h
  · next hb =>
    exact store_wfFrom_insert _ _ _ _ (store_wfFrom_erase _ _ _ h) (store_erase_ne m i) hb (by simp)

theorem store_wfFrom_ofListFrom (bs : List (BitVec w)) (i : Nat) (low : Option Nat) (hl : ∀ l, low = some l → l < i) :
    Store.wfFrom low (Store.ofListFrom i bs) = true := by
  induction bs generalizing i low with
  | nil => rfl
  | cons b rest ih =>
    simp only [Store.ofListFrom]
    split
    · exact ih _ _ fun l h => by have := hl l h; omega
    · next hb =>
      simp only [Store.wfFrom, Bool.and_eq_true]
      refine ⟨⟨?_, by simpa using hb⟩, ih _ _ fun l h => by have : i = l := by simpa using h
                                                            omega⟩
      cases low <;> simp_all

/-- A memory made from a list of bytes is canonical. -/
theorem memory_wf_ofBytes (bs : List Byte) : Memory.wf (Memory.ofBytes bs) = true :=
  store_wfFrom_ofListFrom bs 0 none (by simp)

/-- Canonical stores that read alike everywhere are equal data. -/
theorem store_wfFrom_read_below (m : Store w) (l j : Nat) (h : Store.wfFrom (some l) m = true) (hj : j ≤ l) :
    Store.read m j = Store.unlisted := by
  induction m generalizing l with
  | nil => rfl
  | cons e rest ih =>
    obtain ⟨k, v⟩ := e
    simp only [Store.wfFrom, Bool.and_eq_true, decide_eq_true_eq] at h
    have : j ≠ k := by omega
    simp only [Store.read, this, if_false]
    exact ih k h.2 (by omega)

theorem store_below_write (m : Store w) (i : Nat) (b : BitVec w) (n : Nat) (h : Store.below m n = true) (hi : i < n) :
    Store.below (Store.write m i b) n = true := by
  have he : Store.below (Store.erase m i) n = true := by
    simp only [Store.below, Store.erase, List.all_eq_true] at *
    intro e hm
    exact h e (List.mem_filter.mp hm).1
  have hins : ∀ q : Store w, Store.below q n = true → Store.below (Store.insert q i b) n = true := by
    intro q hq
    induction q with
    | nil => simp [Store.insert, Store.below, hi]
    | cons e rest ih =>
      obtain ⟨k, v⟩ := e
      simp only [Store.below, List.all_cons, Bool.and_eq_true] at hq ih
      simp only [Store.insert]
      split
      · simp [Store.below, hi]
        exact ⟨by simpa using hq.1, by simpa using hq.2⟩
      · simp only [Store.below, List.all_cons, Bool.and_eq_true]
        exact ⟨hq.1, ih hq.2⟩
  unfold Store.write
  split
  · exact he
  · exact hins _ he

end Sys2Proof.Machine
end

