-- ==== Sys2Proof/Laws/State.lean ====
section
/-! SUPPORT. One lemma per field per register update, so that no later proof unfolds a record update; the fields of the flag
updates; the setters in any order. -/

namespace Sys2Proof.Machine

@[simp] theorem setA_a (s : State) (v : Byte) : (s.setA v).a = v := rfl
@[simp] theorem setA_x (s : State) (v : Byte) : (s.setA v).x = s.x := rfl
@[simp] theorem setA_y (s : State) (v : Byte) : (s.setA v).y = s.y := rfl
@[simp] theorem setA_sp (s : State) (v : Byte) : (s.setA v).sp = s.sp := rfl
@[simp] theorem setA_pc (s : State) (v : Byte) : (s.setA v).pc = s.pc := rfl
@[simp] theorem setA_p (s : State) (v : Byte) : (s.setA v).p = s.p := rfl
@[simp] theorem setA_cyclesToHalt (s : State) (v : Byte) : (s.setA v).cyclesToHalt = s.cyclesToHalt := rfl
@[simp] theorem setA_nmiPending (s : State) (v : Byte) : (s.setA v).nmiPending = s.nmiPending := rfl
@[simp] theorem setA_irqPending (s : State) (v : Byte) : (s.setA v).irqPending = s.irqPending := rfl
@[simp] theorem setA_resetMark (s : State) (v : Byte) : (s.setA v).resetMark = s.resetMark := rfl
@[simp] theorem setA_ram (s : State) (v : Byte) : (s.setA v).ram = s.ram := rfl
@[simp] theorem setA_ppu (s : State) (v : Byte) : (s.setA v).ppu = s.ppu := rfl
@[simp] theorem setA_apu (s : State) (v : Byte) : (s.setA v).apu = s.apu := rfl
@[simp] theorem setA_mapper (s : State) (v : Byte) : (s.setA v).mapper = s.mapper := rfl
@[simp] theorem setA_runState (s : State) (v : Byte) : (s.setA v).runState = s.runState := rfl
@[simp] theorem setA_breakpointCycles (s : State) (v : Byte) : (s.setA v).breakpointCycles = s.breakpointCycles := rfl
@[simp] theorem setA_strobe (s : State) (v : Byte) : (s.setA v).strobe = s.strobe := rfl
@[simp] theorem setA_ctrlShift0 (s : State) (v : Byte) : (s.setA v).ctrlShift0 = s.ctrlShift0 := rfl
@[simp] theorem setA_ctrlShift1 (s : State) (v : Byte) : (s.setA v).ctrlShift1 = s.ctrlShift1 := rfl
@[simp] theorem setA_inputs (s : State) (v : Byte) : (s.setA v).inputs = s.inputs := rfl
@[simp] theorem setA_rom (s : State) (v : Byte) : (s.setA v).rom = s.rom := rfl
@[simp] theorem setA_cfg (s : State) (v : Byte) : (s.setA v).cfg = s.cfg := rfl
@[simp] theorem setA_draws (s : State) (v : Byte) : (s.setA v).draws = s.draws := rfl
@[simp] theorem setA_stepCycles (s : State) (v : Byte) : (s.setA v).stepCycles = s.stepCycles := rfl
@[simp] theorem setA_inFrame (s : State) (v : Byte) : (s.setA v).inFrame = s.inFrame := rfl
@[simp] theorem setA_samples (s : State) (v : Byte) : (s.setA v).samples = s.samples := rfl

@[simp] theorem setX_a (s : State) (v : Byte) : (s.setX v).a = s.a := rfl
@[simp] theorem setX_x (s : State) (v : Byte) : (s.setX v).x = v := rfl
@[simp] theorem setX_y (s : State) (v : Byte) : (s.setX v).y = s.y := rfl
@[simp] theorem setX_sp (s : State) (v : Byte) : (s.setX v).sp = s.sp := rfl
@[simp] theorem setX_pc (s : State) (v : Byte) : (s.setX v).pc = s.pc := rfl
@[simp] theorem setX_p (s : State) (v : Byte) : (s.setX v).p = s.p := rfl
@[simp] theorem setX_cyclesToHalt (s : State) (v : Byte) : (s.setX v).cyclesToHalt = s.cyclesToHalt := rfl
@[simp] theorem setX_nmiPending (s : State) (v : Byte) : (s.setX v).nmiPending = s.nmiPending := rfl
@[simp] theorem setX_irqPending (s : State) (v : Byte) : (s.setX v).irqPending = s.irqPending := rfl
@[simp] theorem setX_resetMark (s : State) (v : Byte) : (s.setX v).resetMark = s.resetMark := rfl
@[simp] theorem setX_ram (s : State) (v : Byte) : (s.setX v).ram = s.ram := rfl
@[simp] theorem setX_ppu (s : State) (v : Byte) : (s.setX v).ppu = s.ppu := rfl
@[simp] theorem setX_apu (s : State) (v : Byte) : (s.setX v).apu = s.apu := rfl
@[simp] theorem setX_mapper (s : State) (v : Byte) : (s.setX v).mapper = s.mapper := rfl
@[simp] theorem setX_runState (s : State) (v : Byte) : (s.setX v).runState = s.runState := rfl
@[simp] theorem setX_breakpointCycles (s : State) (v : Byte) : (s.setX v).breakpointCycles = s.breakpointCycles := rfl
@[simp] theorem setX_strobe (s : State) (v : Byte) : (s.setX v).strobe = s.strobe := rfl
@[simp] theorem setX_ctrlShift0 (s : State) (v : Byte) : (s.setX v).ctrlShift0 = s.ctrlShift0 := rfl
@[simp] theorem setX_ctrlShift1 (s : State) (v : Byte) : (s.setX v).ctrlShift1 = s.ctrlShift1 := rfl
@[simp] theorem setX_inputs (s : State) (v : Byte) : (s.setX v).inputs = s.inputs := rfl
@[simp] theorem setX_rom (s : State) (v : Byte) : (s.setX v).rom = s.rom := rfl
@[simp] theorem setX_cfg (s : State) (v : Byte) : (s.setX v).cfg = s.cfg := rfl
@[simp] theorem setX_draws (s : State) (v : Byte) : (s.setX v).draws = s.draws := rfl
@[simp] theorem setX_stepCycles (s : State) (v : Byte) : (s.setX v).stepCycles = s.stepCycles := rfl
@[simp] theorem setX_inFrame (s : State) (v : Byte) : (s.setX v).inFrame = s.inFrame := rfl
@[simp] theorem setX_samples (s : State) (v : Byte) : (s.setX v).samples = s.samples := rfl

@[simp] theorem setY_a (s : State) (v : Byte) : (s.setY v).a = s.a := rfl
@[simp] theorem setY_x (s : State) (v : Byte) : (s.setY v).x = s.x := rfl
@[simp] theorem setY_y (s : State) (v : Byte) : (s.setY v).y = v := rfl
@[simp] theorem setY_sp (s : State) (v : Byte) : (s.setY v).sp = s.sp := rfl
@[simp] theorem setY_pc (s : State) (v : Byte) : (s.setY v).pc = s.pc := rfl
@[simp] theorem setY_p (s : State) (v : Byte) : (s.setY v).p = s.p := rfl
@[simp] theorem setY_cyclesToHalt (s : State) (v : Byte) : (s.setY v).cyclesToHalt = s.cyclesToHalt := rfl
@[simp] theorem setY_nmiPending (s : State) (v : Byte) : (s.setY v).nmiPending = s.nmiPending := rfl
@[simp] theorem setY_irqPending (s : State) (v : Byte) : (s.setY v).irqPending = s.irqPending := rfl
@[simp] theorem setY_resetMark (s : State) (v : Byte) : (s.setY v).resetMark = s.resetMark := rfl
@[simp] theorem setY_ram (s : State) (v : Byte) : (s.setY v).ram = s.ram := rfl
@[simp] theorem setY_ppu (s : State) (v : Byte) : (s.setY v).ppu = s.ppu := rfl
@[simp] theorem setY_apu (s : State) (v : Byte) : (s.setY v).apu = s.apu := rfl
@[simp] theorem setY_mapper (s : State) (v : Byte) : (s.setY v).mapper = s.mapper := rfl
@[simp] theorem setY_runState (s : State) (v : Byte) : (s.setY v).runState = s.runState := rfl
@[simp] theorem setY_breakpointCycles (s : State) (v : Byte) : (s.setY v).breakpointCycles = s.breakpointCycles := rfl
@[simp] theorem setY_strobe (s : State) (v : Byte) : (s.setY v).strobe = s.strobe := rfl
@[simp] theorem setY_ctrlShift0 (s : State) (v : Byte) : (s.setY v).ctrlShift0 = s.ctrlShift0 := rfl
@[simp] theorem setY_ctrlShift1 (s : State) (v : Byte) : (s.setY v).ctrlShift1 = s.ctrlShift1 := rfl
@[simp] theorem setY_inputs (s : State) (v : Byte) : (s.setY v).inputs = s.inputs := rfl
@[simp] theorem setY_rom (s : State) (v : Byte) : (s.setY v).rom = s.rom := rfl
@[simp] theorem setY_cfg (s : State) (v : Byte) : (s.setY v).cfg = s.cfg := rfl
@[simp] theorem setY_draws (s : State) (v : Byte) : (s.setY v).draws = s.draws := rfl
@[simp] theorem setY_stepCycles (s : State) (v : Byte) : (s.setY v).stepCycles = s.stepCycles := rfl
@[simp] theorem setY_inFrame (s : State) (v : Byte) : (s.setY v).inFrame = s.inFrame := rfl
@[simp] theorem setY_samples (s : State) (v : Byte) : (s.setY v).samples = s.samples := rfl

@[simp] theorem setSp_a (s : State) (v : Byte) : (s.setSp v).a = s.a := rfl
@[simp] theorem setSp_x (s : State) (v : Byte) : (s.setSp v).x = s.x := rfl
@[simp] theorem setSp_y (s : State) (v : Byte) : (s.setSp v).y = s.y := rfl
@[simp] theorem setSp_sp (s : State) (v : Byte) : (s.setSp v).sp = v := rfl
@[simp] theorem setSp_pc (s : State) (v : Byte) : (s.setSp v).pc = s.pc := rfl
@[simp] theorem setSp_p (s : State) (v : Byte) : (s.setSp v).p = s.p := rfl
@[simp] theorem setSp_cyclesToHalt (s : State) (v : Byte) : (s.setSp v).cyclesToHalt = s.cyclesToHalt := rfl
@[simp] theorem setSp_nmiPending (s : State) (v : Byte) : (s.setSp v).nmiPending = s.nmiPending := rfl
@[simp] theorem setSp_irqPending (s : State) (v : Byte) : (s.setSp v).irqPending = s.irqPending := rfl
@[simp] theorem setSp_resetMark (s : State) (v : Byte) : (s.setSp v).resetMark = s.resetMark := rfl
@[simp] theorem setSp_ram (s : State) (v : Byte) : (s.setSp v).ram = s.ram := rfl
@[simp] theorem setSp_ppu (s : State) (v : Byte) : (s.setSp v).ppu = s.ppu := rfl
@[simp] theorem setSp_apu (s : State) (v : Byte) : (s.setSp v).apu = s.apu := rfl
@[simp] theorem setSp_mapper (s : State) (v : Byte) : (s.setSp v).mapper = s.mapper := rfl
@[simp] theorem setSp_runState (s : State) (v : Byte) : (s.setSp v).runState = s.runState := rfl
@[simp] theorem setSp_breakpointCycles (s : State) (v : Byte) : (s.setSp v).breakpointCycles = s.breakpointCycles := rfl
@[simp] theorem setSp_strobe (s : State) (v : Byte) : (s.setSp v).strobe = s.strobe := rfl
@[simp] theorem setSp_ctrlShift0 (s : State) (v : Byte) : (s.setSp v).ctrlShift0 = s.ctrlShift0 := rfl
@[simp] theorem setSp_ctrlShift1 (s : State) (v : Byte) : (s.setSp v).ctrlShift1 = s.ctrlShift1 := rfl
@[simp] theorem setSp_inputs (s : State) (v : Byte) : (s.setSp v).inputs = s.inputs := rfl
@[simp] theorem setSp_rom (s : State) (v : Byte) : (s.setSp v).rom = s.rom := rfl
@[simp] theorem setSp_cfg (s : State) (v : Byte) : (s.setSp v).cfg = s.cfg := rfl
@[simp] theorem setSp_draws (s : State) (v : Byte) : (s.setSp v).draws = s.draws := rfl
@[simp] theorem setSp_stepCycles (s : State) (v : Byte) : (s.setSp v).stepCycles = s.stepCycles := rfl
@[simp] theorem setSp_inFrame (s : State) (v : Byte) : (s.setSp v).inFrame = s.inFrame := rfl
@[simp] theorem setSp_samples (s : State) (v : Byte) : (s.setSp v).samples = s.samples := rfl

@[simp] theorem setPc_a (s : State) (v : Word) : (s.setPc v).a = s.a := rfl
@[simp] theorem setPc_x (s : State) (v : Word) : (s.setPc v).x = s.x := rfl
@[simp] theorem setPc_y (s : State) (v : Word) : (s.setPc v).y = s.y := rfl
@[simp] theorem setPc_sp (s : State) (v : Word) : (s.setPc v).sp = s.sp := rfl
@[simp] theorem setPc_pc (s : State) (v : Word) : (s.setPc v).pc = v := rfl
@[simp] theorem setPc_p (s : State) (v : Word) : (s.setPc v).p = s.p := rfl
@[simp] theorem setPc_cyclesToHalt (s : State) (v : Word) : (s.setPc v).cyclesToHalt = s.cyclesToHalt := rfl
@[simp] theorem setPc_nmiPending (s : State) (v : Word) : (s.setPc v).nmiPending = s.nmiPending := rfl
@[simp] theorem setPc_irqPending (s : State) (v : Word) : (s.setPc v).irqPending = s.irqPending := rfl
@[simp] theorem setPc_resetMark (s : State) (v : Word) : (s.setPc v).resetMark = s.resetMark := rfl
@[simp] theorem setPc_ram (s : State) (v : Word) : (s.setPc v).ram = s.ram := rfl
@[simp] theorem setPc_ppu (s : State) (v : Word) : (s.setPc v).ppu = s.ppu := rfl
@[simp] theorem setPc_apu (s : State) (v : Word) : (s.setPc v).apu = s.apu := rfl
@[simp] theorem setPc_mapper (s : State) (v : Word) : (s.setPc v).mapper = s.mapper := rfl
@[simp] theorem setPc_runState (s : State) (v : Word) : (s.setPc v).runState = s.runState := rfl
@[simp] theorem setPc_breakpointCycles (s : State) (v : Word) : (s.setPc v).breakpointCycles = s.breakpointCycles := rfl
@[simp] theorem setPc_strobe (s : State) (v : Word) : (s.setPc v).strobe = s.strobe := rfl
@[simp] theorem setPc_ctrlShift0 (s : State) (v : Word) : (s.setPc v).ctrlShift0 = s.ctrlShift0 := rfl
@[simp] theorem setPc_ctrlShift1 (s : State) (v : Word) : (s.setPc v).ctrlShift1 = s.ctrlShift1 := rfl
@[simp] theorem setPc_inputs (s : State) (v : Word) : (s.setPc v).inputs = s.inputs := rfl
@[simp] theorem setPc_rom (s : State) (v : Word) : (s.setPc v).rom = s.rom := rfl
@[simp] theorem setPc_cfg (s : State) (v : Word) : (s.setPc v).cfg = s.cfg := rfl
@[simp] theorem setPc_draws (s : State) (v : Word) : (s.setPc v).draws = s.draws := rfl
@[simp] theorem setPc_stepCycles (s : State) (v : Word) : (s.setPc v).stepCycles = s.stepCycles := rfl
@[simp] theorem setPc_inFrame (s : State) (v : Word) : (s.setPc v).inFrame = s.inFrame := rfl
@[simp] theorem setPc_samples (s : State) (v : Word) : (s.setPc v).samples = s.samples := rfl

@[simp] theorem setP_a (s : State) (v : Flags) : (s.setP v).a = s.a := rfl
@[simp] theorem setP_x (s : State) (v : Flags) : (s.setP v).x = s.x := rfl
@[simp] theorem setP_y (s : State) (v : Flags) : (s.setP v).y = s.y := rfl
@[simp] theorem setP_sp (s : State) (v : Flags) : (s.setP v).sp = s.sp := rfl
@[simp] theorem setP_pc (s : State) (v : Flags) : (s.setP v).pc = s.pc := rfl
@[simp] theorem setP_p (s : State) (v : Flags) : (s.setP v).p = v := rfl
@[simp] theorem setP_cyclesToHalt (s : State) (v : Flags) : (s.setP v).cyclesToHalt = s.cyclesToHalt := rfl
@[simp] theorem setP_nmiPending (s : State) (v : Flags) : (s.setP v).nmiPending = s.nmiPending := rfl
@[simp] theorem setP_irqPending (s : State) (v : Flags) : (s.setP v).irqPending = s.irqPending := rfl
@[simp] theorem setP_resetMark (s : State) (v : Flags) : (s.setP v).resetMark = s.resetMark := rfl
@[simp] theorem setP_ram (s : State) (v : Flags) : (s.setP v).ram = s.ram := rfl
@[simp] theorem setP_ppu (s : State) (v : Flags) : (s.setP v).ppu = s.ppu := rfl
@[simp] theorem setP_apu (s : State) (v : Flags) : (s.setP v).apu = s.apu := rfl
@[simp] theorem setP_mapper (s : State) (v : Flags) : (s.setP v).mapper = s.mapper := rfl
@[simp] theorem setP_runState (s : State) (v : Flags) : (s.setP v).runState = s.runState := rfl
@[simp] theorem setP_breakpointCycles (s : State) (v : Flags) : (s.setP v).breakpointCycles = s.breakpointCycles := rfl
@[simp] theorem setP_strobe (s : State) (v : Flags) : (s.setP v).strobe = s.strobe := rfl
@[simp] theorem setP_ctrlShift0 (s : State) (v : Flags) : (s.setP v).ctrlShift0 = s.ctrlShift0 := rfl
@[simp] theorem setP_ctrlShift1 (s : State) (v : Flags) : (s.setP v).ctrlShift1 = s.ctrlShift1 := rfl
@[simp] theorem setP_inputs (s : State) (v : Flags) : (s.setP v).inputs = s.inputs := rfl
@[simp] theorem setP_rom (s : State) (v : Flags) : (s.setP v).rom = s.rom := rfl
@[simp] theorem setP_cfg (s : State) (v : Flags) : (s.setP v).cfg = s.cfg := rfl
@[simp] theorem setP_draws (s : State) (v : Flags) : (s.setP v).draws = s.draws := rfl
@[simp] theorem setP_stepCycles (s : State) (v : Flags) : (s.setP v).stepCycles = s.stepCycles := rfl
@[simp] theorem setP_inFrame (s : State) (v : Flags) : (s.setP v).inFrame = s.inFrame := rfl
@[simp] theorem setP_samples (s : State) (v : Flags) : (s.setP v).samples = s.samples := rfl

@[simp] theorem setNZ_a (s : State) (v : Byte) : (s.setNZ v).a = s.a := rfl
@[simp] theorem setNZ_x (s : State) (v : Byte) : (s.setNZ v).x = s.x := rfl
@[simp] theorem setNZ_y (s : State) (v : Byte) : (s.setNZ v).y = s.y := rfl
@[simp] theorem setNZ_sp (s : State) (v : Byte) : (s.setNZ v).sp = s.sp := rfl
@[simp] theorem setNZ_pc (s : State) (v : Byte) : (s.setNZ v).pc = s.pc := rfl
@[simp] theorem setNZ_p (s : State) (v : Byte) : (s.setNZ v).p = s.p.setNZ v := rfl
@[simp] theorem setNZ_cyclesToHalt (s : State) (v : Byte) : (s.setNZ v).cyclesToHalt = s.cyclesToHalt := rfl
@[simp] theorem setNZ_nmiPending (s : State) (v : Byte) : (s.setNZ v).nmiPending = s.nmiPending := rfl
@[simp] theorem setNZ_irqPending (s : State) (v : Byte) : (s.setNZ v).irqPending = s.irqPending := rfl
@[simp] theorem setNZ_resetMark (s : State) (v : Byte) : (s.setNZ v).resetMark = s.resetMark := rfl
@[simp] theorem setNZ_ram (s : State) (v : Byte) : (s.setNZ v).ram = s.ram := rfl
@[simp] theorem setNZ_ppu (s : State) (v : Byte) : (s.setNZ v).ppu = s.ppu := rfl
@[simp] theorem setNZ_apu (s : State) (v : Byte) : (s.setNZ v).apu = s.apu := rfl
@[simp] theorem setNZ_mapper (s : State) (v : Byte) : (s.setNZ v).mapper = s.mapper := rfl
@[simp] theorem setNZ_runState (s : State) (v : Byte) : (s.setNZ v).runState = s.runState := rfl
@[simp] theorem setNZ_breakpointCycles (s : State) (v : Byte) : (s.setNZ v).breakpointCycles = s.breakpointCycles := rfl
@[simp] theorem setNZ_strobe (s : State) (v : Byte) : (s.setNZ v).strobe = s.strobe := rfl
@[simp] theorem setNZ_ctrlShift0 (s : State) (v : Byte) : (s.setNZ v).ctrlShift0 = s.ctrlShift0 := rfl
@[simp] theorem setNZ_ctrlShift1 (s : State) (v : Byte) : (s.setNZ v).ctrlShift1 = s.ctrlShift1 := rfl
@[simp] theorem setNZ_inputs (s : State) (v : Byte) : (s.setNZ v).inputs = s.inputs := rfl
@[simp] theorem setNZ_rom (s : State) (v : Byte) : (s.setNZ v).rom = s.rom := rfl
@[simp] theorem setNZ_cfg (s : State) (v : Byte) : (s.setNZ v).cfg = s.cfg := rfl
@[simp] theorem setNZ_draws (s : State) (v : Byte) : (s.setNZ v).draws = s.draws := rfl
@[simp] theorem setNZ_stepCycles (s : State) (v : Byte) : (s.setNZ v).stepCycles = s.stepCycles := rfl
@[simp] theorem setNZ_inFrame (s : State) (v : Byte) : (s.setNZ v).inFrame = s.inFrame := rfl
@[simp] theorem setNZ_samples (s : State) (v : Byte) : (s.setNZ v).samples = s.samples := rfl

@[simp] theorem setCycles_a (s : State) (v : Nat) : (s.setCycles v).a = s.a := rfl
@[simp] theorem setCycles_x (s : State) (v : Nat) : (s.setCycles v).x = s.x := rfl
@[simp] theorem setCycles_y (s : State) (v : Nat) : (s.setCycles v).y = s.y := rfl
@[simp] theorem setCycles_sp (s : State) (v : Nat) : (s.setCycles v).sp = s.sp := rfl
@[simp] theorem setCycles_pc (s : State) (v : Nat) : (s.setCycles v).pc = s.pc := rfl
@[simp] theorem setCycles_p (s : State) (v : Nat) : (s.setCycles v).p = s.p := rfl
@[simp] theorem setCycles_cyclesToHalt (s : State) (v : Nat) : (s.setCycles v).cyclesToHalt = s.cyclesToHalt := rfl
@[simp] theorem setCycles_nmiPending (s : State) (v : Nat) : (s.setCycles v).nmiPending = s.nmiPending := rfl
@[simp] theorem setCycles_irqPending (s : State) (v : Nat) : (s.setCycles v).irqPending = s.irqPending := rfl
@[simp] theorem setCycles_resetMark (s : State) (v : Nat) : (s.setCycles v).resetMark = s.resetMark := rfl
@[simp] theorem setCycles_ram (s : State) (v : Nat) : (s.setCycles v).ram = s.ram := rfl
@[simp] theorem setCycles_ppu (s : State) (v : Nat) : (s.setCycles v).ppu = s.ppu := rfl
@[simp] theorem setCycles_apu (s : State) (v : Nat) : (s.setCycles v).apu = s.apu := rfl
@[simp] theorem setCycles_mapper (s : State) (v : Nat) : (s.setCycles v).mapper = s.mapper := rfl
@[simp] theorem setCycles_runState (s : State) (v : Nat) : (s.setCycles v).runState = s.runState := rfl
@[simp] theorem setCycles_breakpointCycles (s : State) (v : Nat) : (s.setCycles v).breakpointCycles = s.breakpointCycles := rfl
@[simp] theorem setCycles_strobe (s : State) (v : Nat) : (s.setCycles v).strobe = s.strobe := rfl
@[simp] theorem setCycles_ctrlShift0 (s : State) (v : Nat) : (s.setCycles v).ctrlShift0 = s.ctrlShift0 := rfl
@[simp] theorem setCycles_ctrlShift1 (s : State) (v : Nat) : (s.setCycles v).ctrlShift1 = s.ctrlShift1 := rfl
@[simp] theorem setCycles_inputs (s : State) (v : Nat) : (s.setCycles v).inputs = s.inputs := rfl
@[simp] theorem setCycles_rom (s : State) (v : Nat) : (s.setCycles v).rom = s.rom := rfl
@[simp] theorem setCycles_cfg (s : State) (v : Nat) : (s.setCycles v).cfg = s.cfg := rfl
@[simp] theorem setCycles_draws (s : State) (v : Nat) : (s.setCycles v).draws = s.draws := rfl
@[simp] theorem setCycles_stepCycles (s : State) (v : Nat) : (s.setCycles v).stepCycles = v := rfl
@[simp] theorem setCycles_inFrame (s : State) (v : Nat) : (s.setCycles v).inFrame = s.inFrame := rfl
@[simp] theorem setCycles_samples (s : State) (v : Nat) : (s.setCycles v).samples = s.samples := rfl

@[simp] theorem flags_setNZ_n (p : Flags) (v : Byte) : (p.setNZ v).n = v.msb := rfl
@[simp] theorem flags_setNZ_v (p : Flags) (v : Byte) : (p.setNZ v).v = p.v := rfl
@[simp] theorem flags_setNZ_d (p : Flags) (v : Byte) : (p.setNZ v).d = p.d := rfl
@[simp] theorem flags_setNZ_i (p : Flags) (v : Byte) : (p.setNZ v).i = p.i := rfl
@[simp] theorem flags_setNZ_z (p : Flags) (v : Byte) : (p.setNZ v).z = (v == 0) := rfl
@[simp] theorem flags_setNZ_c (p : Flags) (v : Byte) : (p.setNZ v).c = p.c := rfl

@[simp] theorem flags_ofByte_n (v : Byte) : (Flags.ofByte v).n = v.getLsbD 7 := rfl
@[simp] theorem flags_ofByte_v (v : Byte) : (Flags.ofByte v).v = v.getLsbD 6 := rfl
@[simp] theorem flags_ofByte_d (v : Byte) : (Flags.ofByte v).d = v.getLsbD 3 := rfl
@[simp] theorem flags_ofByte_i (v : Byte) : (Flags.ofByte v).i = v.getLsbD 2 := rfl
@[simp] theorem flags_ofByte_z (v : Byte) : (Flags.ofByte v).z = v.getLsbD 1 := rfl
@[simp] theorem flags_ofByte_c (v : Byte) : (Flags.ofByte v).c = v.getLsbD 0 := rfl

/-- The flags pulled from a pushed image are the flags pushed, whatever B was (10_state R27). -/
@[simp] theorem flags_ofByte_image (p : Flags) (b : Bool) : Flags.ofByte (p.image b) = p := by
  obtain ⟨n, v, d, i, z, c⟩ := p
  cases n <;> cases v <;> cases d <;> cases i <;> cases z <;> cases c <;> cases b <;> rfl

/-- A word is its high byte joined to its low byte, and the two bytes come back. -/
@[simp] theorem joinBytes_hi_lo (w : Word) : joinBytes (hiByte w) (loByte w) = w := by
  unfold hiByte loByte joinBytes
  apply BitVec.eq_of_toNat_eq
  erw [BitVec.toNat_append]
  rw [BitVec.extractLsb'_toNat, BitVec.extractLsb'_toNat, ← Nat.shiftLeft_add_eq_or_of_lt (by omega), Nat.shiftLeft_eq, Nat.shiftRight_eq_div_pow]
  have := w.isLt
  omega

@[simp] theorem loByte_joinBytes (h l : Byte) : loByte (joinBytes h l) = l := by
  unfold loByte joinBytes
  apply BitVec.eq_of_toNat_eq
  rw [BitVec.extractLsb'_toNat]
  erw [BitVec.toNat_append]
  have := l.isLt
  rw [← Nat.shiftLeft_add_eq_or_of_lt this, Nat.shiftLeft_eq]
  omega

@[simp] theorem hiByte_joinBytes (h l : Byte) : hiByte (joinBytes h l) = h := by
  unfold hiByte joinBytes
  apply BitVec.eq_of_toNat_eq
  rw [BitVec.extractLsb'_toNat]
  erw [BitVec.toNat_append]
  have := l.isLt
  have := h.isLt
  rw [← Nat.shiftLeft_add_eq_or_of_lt ‹l.toNat < _›, Nat.shiftLeft_eq, Nat.shiftRight_eq_div_pow]
  omega

/-- An outcome that `finish` gives is a next state with its cycle count. -/
@[simp] theorem finish_eq (c : Nat) (s : State) : finish c s = .next (s.setCycles c) := rfl

end Sys2Proof.Machine
end

