-- ==== Sys2Proof/Laws/Bus.lean ====
section
/-! SUPPORT. For each operation on the bus, the stack and the operands, once, everything it can change. -/

namespace Sys2Proof.Machine

theorem readEffects_refl (s : State) : OnlyReadEffects s s := rfl

theorem readEffects_trans {s t u : State} (h1 : OnlyReadEffects s t) (h2 : OnlyReadEffects t u) : OnlyReadEffects s u := by
  unfold OnlyReadEffects at *
  rw [h1] at h2
  exact h2

theorem busEffects_refl (s : State) : OnlyBusEffects s s := rfl

theorem busEffects_trans {s t u : State} (h1 : OnlyBusEffects s t) (h2 : OnlyBusEffects t u) : OnlyBusEffects s u := by
  unfold OnlyBusEffects at *
  rw [h1] at h2
  exact h2

theorem busEffects_of_read {s t : State} (h : OnlyReadEffects s t) : OnlyBusEffects s t := by
  unfold OnlyReadEffects OnlyBusEffects at *
  rw [h]

/-- A CPU-bus read: what it can change. -/
theorem memRead_effects (a : Word) (s : State) : OnlyReadEffects s (memRead a s).2 := by
  unfold memRead
  split
  · rfl
  · unfold ppuRegRead
    split
    · unfold ppuReadStatus drawOpenBus; rfl
    · rfl
    · unfold ppuReadData drawOpenBus
      unfold OnlyReadEffects
      dsimp only
      split <;> dsimp only
    · rfl
  · rfl
  · rfl
  · rfl
  · rfl
  · rfl
  · rfl
  · rfl
  · split <;> rfl
  · rfl

/-- Internal RAM is read without any effect. -/
theorem memRead_ram {a : Word} {i : Nat} (h : busTarget a = .ram i) (s : State) : memRead a s = (Store.read s.ram i, s) := by
  unfold memRead; rw [h]

/-- Program memory is read without any effect. -/
theorem memRead_prg {a : Word} (h : busTarget a = .prg) (s : State) : memRead a s = (prgRead s a.toNat, s) := by
  unfold memRead; rw [h]

theorem memWrite_ram {a : Word} {i : Nat} (h : busTarget a = .ram i) (v : Byte) (s : State) :
    memWrite a v s = { s with ram := Store.write s.ram i v } := by
  unfold memWrite; rw [h]

theorem busTarget_ram (a : Word) (h : a.toNat < 0x2000) : busTarget a = .ram (a.toNat % 0x800) := by
  simp [busTarget, h]

theorem busTarget_prg (a : Word) (h : 0x8000 ≤ a.toNat) : busTarget a = .prg := by
  unfold busTarget
  dsimp only
  repeat rw [if_neg (by omega)]

theorem mapperSetMirroring_effects (m : Mirroring) (s : State) : OnlyBusEffects s (mapperSetMirroring m s) := by
  unfold mapperSetMirroring
  split <;> rfl

theorem mmc1Update_effects (r : Mmc1) (s : State) : OnlyBusEffects s (mmc1Update r s) := by
  unfold mmc1Update
  dsimp only
  split
  · refine busEffects_trans ?_ (mapperSetMirroring_effects _ _)
    rfl
  · rfl

theorem mapperWrite8_effects (a : Word) (v : Byte) (s : State) : OnlyBusEffects s (mapperWrite8 a v s) := by
  unfold mapperWrite8
  split
  · rfl
  · unfold mmc1Write
    dsimp only
    split
    · exact mmc1Update_effects _ _
    · split
      · exact mmc1Update_effects _ _
      · rfl
  · unfold mmc3Write
    split <;> first | rfl | exact mapperSetMirroring_effects _ _

@[simp] theorem patternRamCell_windowed {s : State} (h : s.cfg.patternRam = .windowed) (a : Nat) :
    patternRamCell s a = chrMap s.mapper a := by simp only [patternRamCell, h]

@[simp] theorem patternRamCell_direct {s : State} (h : s.cfg.patternRam = .direct) (a : Nat) :
    patternRamCell s a = a := by simp only [patternRamCell, h]

theorem ppuWrite_effects (s : State) (a : Nat) (v : Byte) : OnlyBusEffects s (ppuWrite s a v) := by
  unfold ppuWrite chrWrite
  dsimp only
  split
  · split <;> rfl
  · split <;> rfl

theorem ppuRegWrite_effects (r : Nat) (v : Byte) (s : State) : OnlyBusEffects s (ppuRegWrite r v s) := by
  unfold ppuRegWrite
  split <;> try rfl
  exact busEffects_trans (ppuWrite_effects s _ v) rfl

theorem dmaCopy_effects (n i : Nat) (page : Byte) (s : State) : OnlyBusEffects s (dmaCopy n i page s) := by
  induction n generalizing i s with
  | zero => rfl
  | succ n ih =>
    have h := busEffects_of_read (memRead_effects (joinBytes page (BitVec.ofNat 8 i)) s)
    refine busEffects_trans (busEffects_trans h ?_) (ih _ _)
    rfl

theorem oamDma_effects (page : Byte) (s : State) : OnlyBusEffects s (oamDma page s) :=
  busEffects_trans (dmaCopy_effects 256 0 page s) rfl

/-- A CPU-bus write: what it can change. -/
theorem memWrite_effects (a : Word) (v : Byte) (s : State) : OnlyBusEffects s (memWrite a v s) := by
  unfold memWrite
  split <;> try rfl
  · exact ppuRegWrite_effects _ _ _
  · exact oamDma_effects _ _
  · unfold writeStrobe; split <;> rfl
  · split <;> rfl
  · exact mapperWrite8_effects _ _ _

theorem memRead16_effects (a : Word) (s : State) : OnlyReadEffects s (memRead16 a s).2 :=
  readEffects_trans (memRead_effects a s) (memRead_effects _ _)

theorem memRead16zp_eq (z : Byte) (s : State) :
    memRead16zp z s = (joinBytes (Store.read s.ram (z + 1).toNat) (Store.read s.ram z.toNat), s) := by
  have h : ∀ b : Byte, busTarget (zext16 b) = .ram b.toNat := by
    intro b
    have hb := b.isLt
    have : (zext16 b).toNat = b.toNat := by simp [zext16]; omega
    rw [busTarget_ram _ (by omega), this, Nat.mod_eq_of_lt (by omega)]
  unfold memRead16zp
  simp only [memRead_ram (h _)]

/-- The stack is internal RAM, page 1. -/
theorem busTarget_stack (sp : Byte) : busTarget (stackAddr sp) = .ram (256 + sp.toNat) := by
  have hs := sp.isLt
  have : (stackAddr sp).toNat = 256 + sp.toNat := by
    unfold stackAddr joinBytes
    erw [BitVec.toNat_append]
    rw [← Nat.shiftLeft_add_eq_or_of_lt hs]
    rfl
  rw [busTarget_ram _ (by omega), this, Nat.mod_eq_of_lt (by omega)]

/-- A push: one byte of internal RAM and S. -/
theorem push_eq (v : Byte) (s : State) :
    push v s = { s with ram := Store.write s.ram (256 + s.sp.toNat) v, sp := s.sp - 1 } := by
  unfold push
  rw [memWrite_ram (busTarget_stack _)]
  rfl

/-- A pull: S, and a byte of internal RAM. -/
theorem pull_eq (s : State) :
    pull s = (Store.read s.ram (256 + (s.sp + 1).toNat), { s with sp := s.sp + 1 }) := by
  unfold pull
  rw [memRead_ram (busTarget_stack _)]
  rfl

theorem push16_eq (w : Word) (s : State) :
    push16 w s = { s with
      ram := Store.write (Store.write s.ram (256 + s.sp.toNat) (hiByte w)) (256 + (s.sp - 1).toNat) (loByte w)
      sp := s.sp - 1 - 1 } := by
  unfold push16
  rw [push_eq, push_eq]

theorem pull16_eq (s : State) :
    pull16 s = (joinBytes (Store.read s.ram (256 + (s.sp + 1 + 1).toNat)) (Store.read s.ram (256 + (s.sp + 1).toNat)),
      { s with sp := s.sp + 1 + 1 }) := by
  unfold pull16
  simp only [pull_eq]

/-- A vector is read from program memory without any effect. -/
theorem memRead16_prg (a : Word) (s : State) (h : 0x8000 ≤ a.toNat) (h' : a.toNat < 0xFFFF) :
    memRead16 a s = (joinBytes (prgRead s (a.toNat + 1)) (prgRead s a.toNat), s) := by
  have h1 : (a + 1).toNat = a.toNat + 1 := by
    rw [BitVec.toNat_add]
    exact Nat.mod_eq_of_lt (by simp; omega)
  unfold memRead16
  rw [memRead_prg (busTarget_prg a h)]
  dsimp only
  rw [memRead_prg (busTarget_prg (a + 1) (by omega)), h1]

/-- Taking an exception: three bytes of the stack, S, I and PC; nothing else. -/
theorem takeException_eq (ret : Word) (b : Bool) (vector : Word) (s : State) (h : 0x8000 ≤ vector.toNat)
    (h' : vector.toNat < 0xFFFF) :
    takeException ret b vector s = { s with
      ram := Store.write (Store.write (Store.write s.ram (256 + s.sp.toNat) (hiByte ret)) (256 + (s.sp - 1).toNat) (loByte ret))
        (256 + (s.sp - 1 - 1).toNat) (s.p.image b)
      sp := s.sp - 1 - 1 - 1
      p := { s.p with i := true }
      pc := joinBytes (prgRead s (vector.toNat + 1)) (prgRead s vector.toNat) } := by
  unfold takeException
  simp only [push16_eq, push_eq, memRead16_prg _ _ h h', State.setP, State.setPc]
  rfl

/-- Returning from an exception: three bytes pulled; flags, S and PC; nothing else. -/
theorem returnFromException_eq (s : State) :
    returnFromException s = { s with
      p := Flags.ofByte (Store.read s.ram (256 + (s.sp + 1).toNat))
      sp := s.sp + 1 + 1 + 1
      pc := joinBytes (Store.read s.ram (256 + (s.sp + 1 + 1 + 1).toNat)) (Store.read s.ram (256 + (s.sp + 1 + 1).toNat)) } := by
  unfold returnFromException
  simp only [pull_eq, pull16_eq, State.setP, State.setPc]

/-- Forming an effective address reads no device: the state is unchanged. -/
@[simp] theorem resolve_state (o : Operand) (s : State) : (resolve o s).state = s := by
  cases o <;> simp [resolve, indexed, memRead16zp_eq]

/-- Reading an operand: what it can change. -/
theorem readOperand_effects (o : Operand) (s : State) : OnlyReadEffects s (readOperand o s).state := by
  unfold readOperand
  split
  · rfl
  · dsimp only
    rw [resolve_state]
    exact memRead_effects _ _

end Sys2Proof.Machine
end

