-- ==== Sys2Proof/Laws/Decode.lean ====
section
/-! SUPPORT. Laws of the decoder: lengths, and what it does on three bytes. -/

namespace Sys2Proof

theorem opLength_cases (op : Byte) : opLength op = 1 ∨ opLength op = 2 ∨ opLength op = 3 := by
  revert op
  decide

theorem buildInstr_length_fin (n : Fin 256) (b1 b2 : Byte) :
    (buildInstr (BitVec.ofFin n) b1 b2).length = opLength (BitVec.ofFin n) := by
  fin_cases n <;> rfl

/-- The length of the instruction an opcode builds is the opcode's length. -/
theorem buildInstr_length (op b1 b2 : Byte) : (buildInstr op b1 b2).length = opLength op :=
  buildInstr_length_fin op.toFin b1 b2

theorem decode_one {op : Byte} (h : opLength op = 1) (rest : List Byte) :
    decode (op :: rest) = .ok (buildInstr op 0 0, rest) := by
  unfold decode
  dsimp only
  rw [h]
  rfl

theorem decode_two {op : Byte} (h : opLength op = 2) (b1 : Byte) (rest : List Byte) :
    decode (op :: b1 :: rest) = .ok (buildInstr op b1 0, rest) := by
  unfold decode
  dsimp only
  rw [h]
  rfl

theorem decode_three {op : Byte} (h : opLength op = 3) (b1 b2 : Byte) (rest : List Byte) :
    decode (op :: b1 :: b2 :: rest) = .ok (buildInstr op b1 b2, rest) := by
  unfold decode
  dsimp only
  rw [h]
  rfl

end Sys2Proof
end

