-- ==== Sys2Proof/Laws/Exec.lean ====
section
/-! SUPPORT. What an instruction can change, by shape and for all of them; that every instruction completes. -/

namespace Sys2Proof.Machine

theorem instrEffects_trans {s t u : State} (h1 : OnlyInstructionEffects s t) (h2 : OnlyInstructionEffects t u) :
    OnlyInstructionEffects s u := by
  unfold OnlyInstructionEffects at *
  rw [h1] at h2
  exact h2

theorem instrEffects_of_bus {s t : State} (h : OnlyBusEffects s t) : OnlyInstructionEffects s t := by
  unfold OnlyBusEffects OnlyInstructionEffects at *
  rw [h]

theorem instrEffects_of_register {s t : State} (h : OnlyRegisterEffects s t) : OnlyInstructionEffects s t := by
  unfold OnlyRegisterEffects OnlyInstructionEffects at *
  rw [h]

theorem registerEffects_trans {s t u : State} (h1 : OnlyRegisterEffects s t) (h2 : OnlyRegisterEffects t u) :
    OnlyRegisterEffects s u := by
  unfold OnlyRegisterEffects at *
  rw [h1] at h2
  exact h2

theorem registerEffects_of_read {s t : State} (h : OnlyReadEffects s t) : OnlyRegisterEffects s t := by
  unfold OnlyReadEffects OnlyRegisterEffects at *
  rw [h]

theorem outcome_next_inj {s t : State} (h : (Host.Outcome.next s : Result) = .next t) : s = t := by
  injection h

/-- A register update that touches nothing but registers. -/
def KeepsAllButRegisters (put : State → Byte → State) : Prop := ∀ s v, OnlyRegisterEffects s (put s v)

theorem keeps_setA : KeepsAllButRegisters State.setA := fun _ _ => rfl
theorem keeps_setX : KeepsAllButRegisters State.setX := fun _ _ => rfl
theorem keeps_setY : KeepsAllButRegisters State.setY := fun _ _ => rfl

theorem finish_register {c : Nat} {s u t : State} (h : finish c u = .next t) (hu : OnlyRegisterEffects s u) :
    OnlyRegisterEffects s t := by
  rw [← outcome_next_inj h]
  exact registerEffects_trans hu rfl

theorem finish_instr {c : Nat} {s u t : State} (h : finish c u = .next t) (hu : OnlyInstructionEffects s u) :
    OnlyInstructionEffects s t := by
  rw [← outcome_next_inj h]
  exact instrEffects_trans hu rfl

theorem loadRegister_effects {put : State → Byte → State} (hp : KeepsAllButRegisters put) {o : Operand} {c : Nat} {s t : State}
    (h : loadRegister put o c s = .next t) : OnlyRegisterEffects s t := by
  refine finish_register h ?_
  exact registerEffects_trans (registerEffects_trans (registerEffects_of_read (readOperand_effects o s)) (hp _ _)) rfl

theorem accumulate_effects {f : Byte → Byte → Flags → Byte × Flags} {o : Operand} {c : Nat} {s t : State}
    (h : accumulate f o c s = .next t) : OnlyRegisterEffects s t := by
  refine finish_register h ?_
  exact registerEffects_trans (registerEffects_of_read (readOperand_effects o s)) rfl

theorem compareWith_effects {r : Byte} {o : Operand} {c : Nat} {s t : State}
    (h : compareWith r o c s = .next t) : OnlyRegisterEffects s t := by
  refine finish_register h ?_
  exact registerEffects_trans (registerEffects_of_read (readOperand_effects o s)) rfl

theorem bitTest_effects {o : Operand} {c : Nat} {s t : State}
    (h : bitTest o c s = .next t) : OnlyRegisterEffects s t := by
  refine finish_register h ?_
  exact registerEffects_trans (registerEffects_of_read (readOperand_effects o s)) rfl

theorem modifyAccumulator_effects {f : Byte → Flags → Byte × Flags} {c : Nat} {s t : State}
    (h : modifyAccumulator f c s = .next t) : OnlyRegisterEffects s t := finish_register h rfl

theorem moveRegister_effects {put : State → Byte → State} (hp : KeepsAllButRegisters put) {v : Byte} {c : Nat} {s t : State}
    (h : moveRegister put v c s = .next t) : OnlyRegisterEffects s t :=
  finish_register h (by
    have h1 := hp s v
    exact registerEffects_trans h1 rfl)

theorem branchIf_effects {cond : Bool} {b : Byte} {s t : State} (h : branchIf cond b s = .next t) :
    OnlyRegisterEffects s t := by
  unfold branchIf at h
  split at h
  · exact finish_register h rfl
  · exact finish_register h rfl

theorem nopEquivalent_effects {op : Byte} {c : Nat} {s t : State} (h : nopEquivalent op c s = .next t) :
    OnlyRegisterEffects s t := by
  unfold nopEquivalent at h
  split at h
  · exact finish_register h rfl
  · cases h

theorem storeValue_effects {v : Byte} {o : Operand} {c : Nat} {s t : State} (h : storeValue v o c s = .next t) :
    OnlyInstructionEffects s t := by
  refine finish_instr h (instrEffects_of_bus ?_)
  rw [resolve_state]
  exact memWrite_effects _ _ _

theorem modifyMemory_effects {f : Byte → Flags → Byte × Flags} {o : Operand} {c : Nat} {s t : State}
    (h : modifyMemory f o c s = .next t) : OnlyInstructionEffects s t := by
  refine finish_instr h ?_
  simp only [resolve_state]
  have h1 := busEffects_of_read (memRead_effects (resolve o s).ea s)
  have h2 := memWrite_effects (resolve o s).ea (f (memRead (resolve o s).ea s).1 s.p).1 (memRead (resolve o s).ea s).2
  exact instrEffects_trans (instrEffects_of_bus (busEffects_trans h1 h2)) rfl

theorem jumpPointer_effects (w : Word) (s : State) : OnlyReadEffects s (jumpPointer w s).2 :=
  readEffects_trans (memRead_effects w s) (memRead_effects _ _)

/-- An instruction that stores nothing changes only registers, and what its reads change. -/
theorem exec_register_effects (i : Instr) (s t : State) (hi : storesToMemory i = false) (h : exec i s = .next t) :
    OnlyRegisterEffects s t := by
  cases i with
  | brk => cases hi
  | oraIndx b1 => exact accumulate_effects h
  | nopStarImp op => exact nopEquivalent_effects h
  | nopStarIndx op b1 => exact nopEquivalent_effects h
  | nopStarZp op b1 => exact nopEquivalent_effects h
  | oraZp b1 => exact accumulate_effects h
  | aslZp b1 => cases hi
  | php => cases hi
  | oraImm b1 => exact accumulate_effects h
  | aslAcc => exact modifyAccumulator_effects h
  | nopStarImm op b1 => exact nopEquivalent_effects h
  | nopStarAbs op w => exact nopEquivalent_effects h
  | oraAbs w => exact accumulate_effects h
  | aslAbs w => cases hi
  | bpl b1 => exact branchIf_effects h
  | oraIndy b1 => exact accumulate_effects h
  | nopStarIndy op b1 => exact nopEquivalent_effects h
  | nopStarZpx op b1 => exact nopEquivalent_effects h
  | oraZpx b1 => exact accumulate_effects h
  | aslZpx b1 => cases hi
  | clc => exact finish_register h rfl
  | oraAbsy w => exact accumulate_effects h
  | nopStarAbsy op w => exact nopEquivalent_effects h
  | nopStarAbsx op w => exact nopEquivalent_effects h
  | oraAbsx w => exact accumulate_effects h
  | aslAbsx w => cases hi
  | jsr w => cases hi
  | andIndx b1 => exact accumulate_effects h
  | bitZp b1 => exact bitTest_effects h
  | andZp b1 => exact accumulate_effects h
  | rolZp b1 => cases hi
  | plp => exact finish_register h (by rw [pull_eq]; rfl)
  | andImm b1 => exact accumulate_effects h
  | rolAcc => exact modifyAccumulator_effects h
  | bitAbs w => exact bitTest_effects h
  | andAbs w => exact accumulate_effects h
  | rolAbs w => cases hi
  | bmi b1 => exact branchIf_effects h
  | andIndy b1 => exact accumulate_effects h
  | andZpx b1 => exact accumulate_effects h
  | rolZpx b1 => cases hi
  | sec => exact finish_register h rfl
  | andAbsy w => exact accumulate_effects h
  | andAbsx w => exact accumulate_effects h
  | rolAbsx w => cases hi
  | rti => exact finish_register h (by rw [returnFromException_eq]; rfl)
  | eorIndx b1 => exact accumulate_effects h
  | eorZp b1 => exact accumulate_effects h
  | lsrZp b1 => cases hi
  | pha => cases hi
  | eorImm b1 => exact accumulate_effects h
  | lsrAcc => exact modifyAccumulator_effects h
  | jmpAbs w => exact finish_register h rfl
  | eorAbs w => exact accumulate_effects h
  | lsrAbs w => cases hi
  | bvc b1 => exact branchIf_effects h
  | eorIndy b1 => exact accumulate_effects h
  | eorZpx b1 => exact accumulate_effects h
  | lsrZpx b1 => cases hi
  | cli => exact finish_register h rfl
  | eorAbsy w => exact accumulate_effects h
  | eorAbsx w => exact accumulate_effects h
  | lsrAbsx w => cases hi
  | rts => exact finish_register h (by rw [pull16_eq]; rfl)
  | adcIndx b1 => exact accumulate_effects h
  | adcZp b1 => exact accumulate_effects h
  | rorZp b1 => cases hi
  | pla => exact registerEffects_trans (by rw [pull_eq]; rfl) (moveRegister_effects keeps_setA h)
  | adcImm b1 => exact accumulate_effects h
  | rorAcc => exact modifyAccumulator_effects h
  | jmpInd w => exact finish_register h (registerEffects_trans (t := (jumpPointer w s).2) (registerEffects_of_read (jumpPointer_effects w s)) rfl)
  | adcAbs w => exact accumulate_effects h
  | rorAbs w => cases hi
  | bvs b1 => exact branchIf_effects h
  | adcIndy b1 => exact accumulate_effects h
  | adcZpx b1 => exact accumulate_effects h
  | rorZpx b1 => cases hi
  | sei => exact finish_register h rfl
  | adcAbsy w => exact accumulate_effects h
  | adcAbsx w => exact accumulate_effects h
  | rorAbsx w => cases hi
  | staIndx b1 => cases hi
  | styZp b1 => cases hi
  | staZp b1 => cases hi
  | stxZp b1 => cases hi
  | dey => exact moveRegister_effects keeps_setY h
  | txa => exact moveRegister_effects keeps_setA h
  | styAbs w => cases hi
  | staAbs w => cases hi
  | stxAbs w => cases hi
  | bcc b1 => exact branchIf_effects h
  | staIndy b1 => cases hi
  | styZpx b1 => cases hi
  | staZpx b1 => cases hi
  | stxZpy b1 => cases hi
  | nopStarZpy op b1 => exact nopEquivalent_effects h
  | tya => exact moveRegister_effects keeps_setA h
  | staAbsy w => cases hi
  | txs => exact finish_register h rfl
  | staAbsx w => cases hi
  | ldyImm b1 => exact loadRegister_effects keeps_setY h
  | ldaIndx b1 => exact loadRegister_effects keeps_setA h
  | ldxImm b1 => exact loadRegister_effects keeps_setX h
  | ldyZp b1 => exact loadRegister_effects keeps_setY h
  | ldaZp b1 => exact loadRegister_effects keeps_setA h
  | ldxZp b1 => exact loadRegister_effects keeps_setX h
  | tay => exact moveRegister_effects keeps_setY h
  | ldaImm b1 => exact loadRegister_effects keeps_setA h
  | tax => exact moveRegister_effects keeps_setX h
  | ldyAbs w => exact loadRegister_effects keeps_setY h
  | ldaAbs w => exact loadRegister_effects keeps_setA h
  | ldxAbs w => exact loadRegister_effects keeps_setX h
  | bcs b1 => exact branchIf_effects h
  | ldaIndy b1 => exact loadRegister_effects keeps_setA h
  | ldyZpx b1 => exact loadRegister_effects keeps_setY h
  | ldaZpx b1 => exact loadRegister_effects keeps_setA h
  | ldxZpy b1 => exact loadRegister_effects keeps_setX h
  | clv => exact finish_register h rfl
  | ldaAbsy w => exact loadRegister_effects keeps_setA h
  | tsx => exact moveRegister_effects keeps_setX h
  | ldyAbsx w => exact loadRegister_effects keeps_setY h
  | ldaAbsx w => exact loadRegister_effects keeps_setA h
  | ldxAbsy w => exact loadRegister_effects keeps_setX h
  | cpyImm b1 => exact compareWith_effects h
  | cmpIndx b1 => exact compareWith_effects h
  | cpyZp b1 => exact compareWith_effects h
  | cmpZp b1 => exact compareWith_effects h
  | decZp b1 => cases hi
  | iny => exact moveRegister_effects keeps_setY h
  | cmpImm b1 => exact compareWith_effects h
  | dex => exact moveRegister_effects keeps_setX h
  | cpyAbs w => exact compareWith_effects h
  | cmpAbs w => exact compareWith_effects h
  | decAbs w => cases hi
  | bne b1 => exact branchIf_effects h
  | cmpIndy b1 => exact compareWith_effects h
  | cmpZpx b1 => exact compareWith_effects h
  | decZpx b1 => cases hi
  | cld => exact finish_register h rfl
  | cmpAbsy w => exact compareWith_effects h
  | cmpAbsx w => exact compareWith_effects h
  | decAbsx w => cases hi
  | cpxImm b1 => exact compareWith_effects h
  | sbcIndx b1 => exact accumulate_effects h
  | cpxZp b1 => exact compareWith_effects h
  | sbcZp b1 => exact accumulate_effects h
  | incZp b1 => cases hi
  | inx => exact moveRegister_effects keeps_setX h
  | sbcImm b1 => exact accumulate_effects h
  | nop => exact finish_register h rfl
  | cpxAbs w => exact compareWith_effects h
  | sbcAbs w => exact accumulate_effects h
  | incAbs w => cases hi
  | beq b1 => exact branchIf_effects h
  | sbcIndy b1 => exact accumulate_effects h
  | sbcZpx b1 => exact accumulate_effects h
  | incZpx b1 => cases hi
  | sed => exact finish_register h rfl
  | sbcAbsy w => exact accumulate_effects h
  | sbcAbsx w => exact accumulate_effects h
  | incAbsx w => cases hi

/-- Any instruction changes only registers, memories, devices, the stall counter and the cycle count. -/
theorem exec_effects (i : Instr) (s t : State) (h : exec i s = .next t) : OnlyInstructionEffects s t := by
  cases hs : storesToMemory i with
  | false => exact instrEffects_of_register (exec_register_effects i s t hs h)
  | true =>
    cases i with
    | brk => exact finish_instr h (by rw [takeException_eq _ _ _ _ (by decide) (by decide)]; rfl)
    | oraIndx b1 => cases hs
    | nopStarImp op => cases hs
    | nopStarIndx op b1 => cases hs
    | nopStarZp op b1 => cases hs
    | oraZp b1 => cases hs
    | aslZp b1 => exact modifyMemory_effects h
    | php => exact finish_instr h (by rw [push_eq]; rfl)
    | oraImm b1 => cases hs
    | aslAcc => cases hs
    | nopStarImm op b1 => cases hs
    | nopStarAbs op w => cases hs
    | oraAbs w => cases hs
    | aslAbs w => exact modifyMemory_effects h
    | bpl b1 => cases hs
    | oraIndy b1 => cases hs
    | nopStarIndy op b1 => cases hs
    | nopStarZpx op b1 => cases hs
    | oraZpx b1 => cases hs
    | aslZpx b1 => exact modifyMemory_effects h
    | clc => cases hs
    | oraAbsy w => cases hs
    | nopStarAbsy op w => cases hs
    | nopStarAbsx op w => cases hs
    | oraAbsx w => cases hs
    | aslAbsx w => exact modifyMemory_effects h
    | jsr w => exact finish_instr h (by rw [push16_eq]; rfl)
    | andIndx b1 => cases hs
    | bitZp b1 => cases hs
    | andZp b1 => cases hs
    | rolZp b1 => exact modifyMemory_effects h
    | plp => cases hs
    | andImm b1 => cases hs
    | rolAcc => cases hs
    | bitAbs w => cases hs
    | andAbs w => cases hs
    | rolAbs w => exact modifyMemory_effects h
    | bmi b1 => cases hs
    | andIndy b1 => cases hs
    | andZpx b1 => cases hs
    | rolZpx b1 => exact modifyMemory_effects h
    | sec => cases hs
    | andAbsy w => cases hs
    | andAbsx w => cases hs
    | rolAbsx w => exact modifyMemory_effects h
    | rti => cases hs
    | eorIndx b1 => cases hs
    | eorZp b1 => cases hs
    | lsrZp b1 => exact modifyMemory_effects h
    | pha => exact finish_instr h (by rw [push_eq]; rfl)
    | eorImm b1 => cases hs
    | lsrAcc => cases hs
    | jmpAbs w => cases hs
    | eorAbs w => cases hs
    | lsrAbs w => exact modifyMemory_effects h
    | bvc b1 => cases hs
    | eorIndy b1 => cases hs
    | eorZpx b1 => cases hs
    | lsrZpx b1 => exact modifyMemory_effects h
    | cli => cases hs
    | eorAbsy w => cases hs
    | eorAbsx w => cases hs
    | lsrAbsx w => exact modifyMemory_effects h
    | rts => cases hs
    | adcIndx b1 => cases hs
    | adcZp b1 => cases hs
    | rorZp b1 => exact modifyMemory_effects h
    | pla => cases hs
    | adcImm b1 => cases hs
    | rorAcc => cases hs
    | jmpInd w => cases hs
    | adcAbs w => cases hs
    | rorAbs w => exact modifyMemory_effects h
    | bvs b1 => cases hs
    | adcIndy b1 => cases hs
    | adcZpx b1 => cases hs
    | rorZpx b1 => exact modifyMemory_effects h
    | sei => cases hs
    | adcAbsy w => cases hs
    | adcAbsx w => cases hs
    | rorAbsx w => exact modifyMemory_effects h
    | staIndx b1 => exact storeValue_effects h
    | styZp b1 => exact storeValue_effects h
    | staZp b1 => exact storeValue_effects h
    | stxZp b1 => exact storeValue_effects h
    | dey => cases hs
    | txa => cases hs
    | styAbs w => exact storeValue_effects h
    | staAbs w => exact storeValue_effects h
    | stxAbs w => exact storeValue_effects h
    | bcc b1 => cases hs
    | staIndy b1 => exact storeValue_effects h
    | styZpx b1 => exact storeValue_effects h
    | staZpx b1 => exact storeValue_effects h
    | stxZpy b1 => exact storeValue_effects h
    | nopStarZpy op b1 => cases hs
    | tya => cases hs
    | staAbsy w => exact storeValue_effects h
    | txs => cases hs
    | staAbsx w => exact storeValue_effects h
    | ldyImm b1 => cases hs
    | ldaIndx b1 => cases hs
    | ldxImm b1 => cases hs
    | ldyZp b1 => cases hs
    | ldaZp b1 => cases hs
    | ldxZp b1 => cases hs
    | tay => cases hs
    | ldaImm b1 => cases hs
    | tax => cases hs
    | ldyAbs w => cases hs
    | ldaAbs w => cases hs
    | ldxAbs w => cases hs
    | bcs b1 => cases hs
    | ldaIndy b1 => cases hs
    | ldyZpx b1 => cases hs
    | ldaZpx b1 => cases hs
    | ldxZpy b1 => cases hs
    | clv => cases hs
    | ldaAbsy w => cases hs
    | tsx => cases hs
    | ldyAbsx w => cases hs
    | ldaAbsx w => cases hs
    | ldxAbsy w => cases hs
    | cpyImm b1 => cases hs
    | cmpIndx b1 => cases hs
    | cpyZp b1 => cases hs
    | cmpZp b1 => cases hs
    | decZp b1 => exact modifyMemory_effects h
    | iny => cases hs
    | cmpImm b1 => cases hs
    | dex => cases hs
    | cpyAbs w => cases hs
    | cmpAbs w => cases hs
    | decAbs w => exact modifyMemory_effects h
    | bne b1 => cases hs
    | cmpIndy b1 => cases hs
    | cmpZpx b1 => cases hs
    | decZpx b1 => exact modifyMemory_effects h
    | cld => cases hs
    | cmpAbsy w => cases hs
    | cmpAbsx w => cases hs
    | decAbsx w => exact modifyMemory_effects h
    | cpxImm b1 => cases hs
    | sbcIndx b1 => cases hs
    | cpxZp b1 => cases hs
    | sbcZp b1 => cases hs
    | incZp b1 => exact modifyMemory_effects h
    | inx => cases hs
    | sbcImm b1 => cases hs
    | nop => cases hs
    | cpxAbs w => cases hs
    | sbcAbs w => cases hs
    | incAbs w => exact modifyMemory_effects h
    | beq b1 => cases hs
    | sbcIndy b1 => cases hs
    | sbcZpx b1 => cases hs
    | incZpx b1 => exact modifyMemory_effects h
    | sed => cases hs
    | sbcAbsy w => cases hs
    | sbcAbsx w => cases hs
    | incAbsx w => exact modifyMemory_effects h

/-- The policy that runs the undocumented opcodes: then every instruction completes. -/
theorem exec_next (i : Instr) (s : State) (h : s.cfg.illegalPolicy = .nop) : ∃ t, exec i s = .next t := by
  have hn : ∀ op c, ∃ t, nopEquivalent op c s = .next t := fun op c => by
    unfold nopEquivalent; rw [h]; exact ⟨_, rfl⟩
  have hb : ∀ cond b, ∃ t, branchIf cond b s = .next t := fun cond b => by
    unfold branchIf; split <;> exact ⟨_, rfl⟩
  cases i with
  | brk => exact ⟨_, rfl⟩
  | oraIndx b1 => exact ⟨_, rfl⟩
  | nopStarImp op => exact hn _ _
  | nopStarIndx op b1 => exact hn _ _
  | nopStarZp op b1 => exact hn _ _
  | oraZp b1 => exact ⟨_, rfl⟩
  | aslZp b1 => exact ⟨_, rfl⟩
  | php => exact ⟨_, rfl⟩
  | oraImm b1 => exact ⟨_, rfl⟩
  | aslAcc => exact ⟨_, rfl⟩
  | nopStarImm op b1 => exact hn _ _
  | nopStarAbs op w => exact hn _ _
  | oraAbs w => exact ⟨_, rfl⟩
  | aslAbs w => exact ⟨_, rfl⟩
  | bpl b1 => exact hb _ _
  | oraIndy b1 => exact ⟨_, rfl⟩
  | nopStarIndy op b1 => exact hn _ _
  | nopStarZpx op b1 => exact hn _ _
  | oraZpx b1 => exact ⟨_, rfl⟩
  | aslZpx b1 => exact ⟨_, rfl⟩
  | clc => exact ⟨_, rfl⟩
  | oraAbsy w => exact ⟨_, rfl⟩
  | nopStarAbsy op w => exact hn _ _
  | nopStarAbsx op w => exact hn _ _
  | oraAbsx w => exact ⟨_, rfl⟩
  | aslAbsx w => exact ⟨_, rfl⟩
  | jsr w => exact ⟨_, rfl⟩
  | andIndx b1 => exact ⟨_, rfl⟩
  | bitZp b1 => exact ⟨_, rfl⟩
  | andZp b1 => exact ⟨_, rfl⟩
  | rolZp b1 => exact ⟨_, rfl⟩
  | plp => exact ⟨_, rfl⟩
  | andImm b1 => exact ⟨_, rfl⟩
  | rolAcc => exact ⟨_, rfl⟩
  | bitAbs w => exact ⟨_, rfl⟩
  | andAbs w => exact ⟨_, rfl⟩
  | rolAbs w => exact ⟨_, rfl⟩
  | bmi b1 => exact hb _ _
  | andIndy b1 => exact ⟨_, rfl⟩
  | andZpx b1 => exact ⟨_, rfl⟩
  | rolZpx b1 => exact ⟨_, rfl⟩
  | sec => exact ⟨_, rfl⟩
  | andAbsy w => exact ⟨_, rfl⟩
  | andAbsx w => exact ⟨_, rfl⟩
  | rolAbsx w => exact ⟨_, rfl⟩
  | rti => exact ⟨_, rfl⟩
  | eorIndx b1 => exact ⟨_, rfl⟩
  | eorZp b1 => exact ⟨_, rfl⟩
  | lsrZp b1 => exact ⟨_, rfl⟩
  | pha => exact ⟨_, rfl⟩
  | eorImm b1 => exact ⟨_, rfl⟩
  | lsrAcc => exact ⟨_, rfl⟩
  | jmpAbs w => exact ⟨_, rfl⟩
  | eorAbs w => exact ⟨_, rfl⟩
  | lsrAbs w => exact ⟨_, rfl⟩
  | bvc b1 => exact hb _ _
  | eorIndy b1 => exact ⟨_, rfl⟩
  | eorZpx b1 => exact ⟨_, rfl⟩
  | lsrZpx b1 => exact ⟨_, rfl⟩
  | cli => exact ⟨_, rfl⟩
  | eorAbsy w => exact ⟨_, rfl⟩
  | eorAbsx w => exact ⟨_, rfl⟩
  | lsrAbsx w => exact ⟨_, rfl⟩
  | rts => exact ⟨_, rfl⟩
  | adcIndx b1 => exact ⟨_, rfl⟩
  | adcZp b1 => exact ⟨_, rfl⟩
  | rorZp b1 => exact ⟨_, rfl⟩
  | pla => exact ⟨_, rfl⟩
  | adcImm b1 => exact ⟨_, rfl⟩
  | rorAcc => exact ⟨_, rfl⟩
  | jmpInd w => exact ⟨_, rfl⟩
  | adcAbs w => exact ⟨_, rfl⟩
  | rorAbs w => exact ⟨_, rfl⟩
  | bvs b1 => exact hb _ _
  | adcIndy b1 => exact ⟨_, rfl⟩
  | adcZpx b1 => exact ⟨_, rfl⟩
  | rorZpx b1 => exact ⟨_, rfl⟩
  | sei => exact ⟨_, rfl⟩
  | adcAbsy w => exact ⟨_, rfl⟩
  | adcAbsx w => exact ⟨_, rfl⟩
  | rorAbsx w => exact ⟨_, rfl⟩
  | staIndx b1 => exact ⟨_, rfl⟩
  | styZp b1 => exact ⟨_, rfl⟩
  | staZp b1 => exact ⟨_, rfl⟩
  | stxZp b1 => exact ⟨_, rfl⟩
  | dey => exact ⟨_, rfl⟩
  | txa => exact ⟨_, rfl⟩
  | styAbs w => exact ⟨_, rfl⟩
  | staAbs w => exact ⟨_, rfl⟩
  | stxAbs w => exact ⟨_, rfl⟩
  | bcc b1 => exact hb _ _
  | staIndy b1 => exact ⟨_, rfl⟩
  | styZpx b1 => exact ⟨_, rfl⟩
  | staZpx b1 => exact ⟨_, rfl⟩
  | stxZpy b1 => exact ⟨_, rfl⟩
  | nopStarZpy op b1 => exact hn _ _
  | tya => exact ⟨_, rfl⟩
  | staAbsy w => exact ⟨_, rfl⟩
  | txs => exact ⟨_, rfl⟩
  | staAbsx w => exact ⟨_, rfl⟩
  | ldyImm b1 => exact ⟨_, rfl⟩
  | ldaIndx b1 => exact ⟨_, rfl⟩
  | ldxImm b1 => exact ⟨_, rfl⟩
  | ldyZp b1 => exact ⟨_, rfl⟩
  | ldaZp b1 => exact ⟨_, rfl⟩
  | ldxZp b1 => exact ⟨_, rfl⟩
  | tay => exact ⟨_, rfl⟩
  | ldaImm b1 => exact ⟨_, rfl⟩
  | tax => exact ⟨_, rfl⟩
  | ldyAbs w => exact ⟨_, rfl⟩
  | ldaAbs w => exact ⟨_, rfl⟩
  | ldxAbs w => exact ⟨_, rfl⟩
  | bcs b1 => exact hb _ _
  | ldaIndy b1 => exact ⟨_, rfl⟩
  | ldyZpx b1 => exact ⟨_, rfl⟩
  | ldaZpx b1 => exact ⟨_, rfl⟩
  | ldxZpy b1 => exact ⟨_, rfl⟩
  | clv => exact ⟨_, rfl⟩
  | ldaAbsy w => exact ⟨_, rfl⟩
  | tsx => exact ⟨_, rfl⟩
  | ldyAbsx w => exact ⟨_, rfl⟩
  | ldaAbsx w => exact ⟨_, rfl⟩
  | ldxAbsy w => exact ⟨_, rfl⟩
  | cpyImm b1 => exact ⟨_, rfl⟩
  | cmpIndx b1 => exact ⟨_, rfl⟩
  | cpyZp b1 => exact ⟨_, rfl⟩
  | cmpZp b1 => exact ⟨_, rfl⟩
  | decZp b1 => exact ⟨_, rfl⟩
  | iny => exact ⟨_, rfl⟩
  | cmpImm b1 => exact ⟨_, rfl⟩
  | dex => exact ⟨_, rfl⟩
  | cpyAbs w => exact ⟨_, rfl⟩
  | cmpAbs w => exact ⟨_, rfl⟩
  | decAbs w => exact ⟨_, rfl⟩
  | bne b1 => exact hb _ _
  | cmpIndy b1 => exact ⟨_, rfl⟩
  | cmpZpx b1 => exact ⟨_, rfl⟩
  | decZpx b1 => exact ⟨_, rfl⟩
  | cld => exact ⟨_, rfl⟩
  | cmpAbsy w => exact ⟨_, rfl⟩
  | cmpAbsx w => exact ⟨_, rfl⟩
  | decAbsx w => exact ⟨_, rfl⟩
  | cpxImm b1 => exact ⟨_, rfl⟩
  | sbcIndx b1 => exact ⟨_, rfl⟩
  | cpxZp b1 => exact ⟨_, rfl⟩
  | sbcZp b1 => exact ⟨_, rfl⟩
  | incZp b1 => exact ⟨_, rfl⟩
  | inx => exact ⟨_, rfl⟩
  | sbcImm b1 => exact ⟨_, rfl⟩
  | nop => exact ⟨_, rfl⟩
  | cpxAbs w => exact ⟨_, rfl⟩
  | sbcAbs w => exact ⟨_, rfl⟩
  | incAbs w => exact ⟨_, rfl⟩
  | beq b1 => exact hb _ _
  | sbcIndy b1 => exact ⟨_, rfl⟩
  | sbcZpx b1 => exact ⟨_, rfl⟩
  | incZpx b1 => exact ⟨_, rfl⟩
  | sed => exact ⟨_, rfl⟩
  | sbcAbsy w => exact ⟨_, rfl⟩
  | sbcAbsx w => exact ⟨_, rfl⟩
  | incAbsx w => exact ⟨_, rfl⟩

end Sys2Proof.Machine
end

