-- ==== Sys2Proof/Laws/Devices.lean ====
section
/-! SUPPORT. What the APU's cycles, the PPU's dots, a reset and a step of the machine can change. -/

namespace Sys2Proof.Machine

theorem apuEffects_refl (s : State) : OnlyApuEffects s s := rfl

theorem apuEffects_trans {s t u : State} (h1 : OnlyApuEffects s t) (h2 : OnlyApuEffects t u) : OnlyApuEffects s u := by
  unfold OnlyApuEffects at *
  rw [h1] at h2
  exact h2

theorem apuEffects_of_read {s t : State} (h : OnlyReadEffects s t) : OnlyApuEffects s t := by
  unfold OnlyReadEffects OnlyApuEffects at *
  rw [h]

theorem dmcReaderCycle_effects (s : State) : OnlyApuEffects s (dmcReaderCycle s) := by
  unfold dmcReaderCycle
  split
  · have h := apuEffects_of_read (memRead_effects s.apu.dmc.curAddr s)
    exact apuEffects_trans h rfl
  · rfl

theorem pacerCycle_effects (s : State) : OnlyApuEffects s (pacerCycle s) := by
  unfold pacerCycle emitSample
  dsimp only
  split
  · split <;> rfl
  · rfl

/-- One APU cycle: what it can change. -/
theorem apuCycle_effects (s : State) : OnlyApuEffects s (apuCycle s) := by
  unfold apuCycle
  have h1 : OnlyApuEffects s (sequencerCycle s) := rfl
  have h2 := apuEffects_trans h1 (dmcReaderCycle_effects (sequencerCycle s))
  have h3 : OnlyApuEffects s (timersCycle (dmcReaderCycle (sequencerCycle s))) := apuEffects_trans h2 rfl
  exact apuEffects_trans h3 (pacerCycle_effects _)

theorem apuCycles_effects (n : Nat) (s : State) : OnlyApuEffects s (apuCycles n s) := by
  induction n generalizing s with
  | zero => rfl
  | succ n ih => exact apuEffects_trans (apuCycle_effects s) (ih _)

/-- `clockFrameCounter`: what it can change. -/
theorem clockFrameCounter_effects (n : Nat) (s : State) : OnlyApuEffects s (clockFrameCounter n s) := by
  unfold clockFrameCounter
  dsimp only
  split
  · exact apuEffects_trans (apuCycles_effects n s) rfl
  · exact apuCycles_effects n s

theorem dotEffects_refl (s : State) : OnlyDotEffects s s := rfl

theorem dotEffects_trans {s t u : State} (h1 : OnlyDotEffects s t) (h2 : OnlyDotEffects t u) : OnlyDotEffects s u := by
  unfold OnlyDotEffects at *
  rw [h1] at h2
  exact h2

theorem clockIrqCounter_effects (s : State) : OnlyDotEffects s (clockIrqCounter s) := by
  unfold clockIrqCounter
  split
  · rfl
  · rfl
  · dsimp only
    split <;> rfl

theorem scanlineClock_effects (s : State) : OnlyDotEffects s (scanlineClock s) := by
  unfold scanlineClock
  split
  · exact clockIrqCounter_effects s
  · rfl

theorem verticalReload_effects (s : State) : OnlyDotEffects s (verticalReload s) := by
  unfold verticalReload
  split <;> rfl

theorem renderLine_effects (y : Nat) (s : State) : OnlyDotEffects s (renderLine y s) := by
  unfold renderLine storeRow
  split <;> rfl

theorem endScanline_effects (s : State) : OnlyDotEffects s (endScanline s) := by
  unfold endScanline
  dsimp only
  split
  · rfl
  · split
    · rfl
    · split
      · have h := dotEffects_trans (verticalReload_effects s) (scanlineClock_effects (verticalReload s))
        have h' := dotEffects_trans h (renderLine_effects 0 _)
        exact dotEffects_trans h' rfl
      · split
        · have h := dotEffects_trans (scanlineClock_effects s) (renderLine_effects (s.ppu.scanline - 20) _)
          exact dotEffects_trans h rfl
        · rfl

theorem advanceDot_effects (s : State) : OnlyDotEffects s (advanceDot s) := by
  unfold advanceDot
  split
  · exact dotEffects_trans (t := { s with ppu := { s.ppu with curX := 0 } }) rfl (endScanline_effects _)
  · rfl

theorem startVBlank_effects (s : State) : OnlyDotEffects s (startVBlank s) := by
  unfold startVBlank
  split <;> rfl

/-- One dot: what it can change. -/
theorem ppuDot_effects (s : State) : OnlyDotEffects s (ppuDot s).2 := by
  have h1 : OnlyDotEffects s { s with ppu := s.ppu.sprite0Dot } := rfl
  unfold ppuDot
  dsimp only
  split
  · have h2 : OnlyDotEffects s { s with ppu := { s.ppu.sprite0Dot with nmiCounter := s.ppu.sprite0Dot.nmiCounter - 1 } } := rfl
    split
    · exact dotEffects_trans (t := { s with ppu := { s.ppu.sprite0Dot with
        nmiCounter := s.ppu.sprite0Dot.nmiCounter - 1, requestEndFrame := false } }) rfl (startVBlank_effects _)
    · exact dotEffects_trans h2 (advanceDot_effects _)
  · exact dotEffects_trans h1 (advanceDot_effects _)

/-- What every part of the machine leaves alone: parameters, ROM, inputs. -/
def SameParameters (s t : State) : Prop := t.cfg = s.cfg ∧ t.rom = s.rom ∧ t.inputs = s.inputs

theorem sameParameters_trans {s t u : State} (h1 : SameParameters s t) (h2 : SameParameters t u) : SameParameters s u :=
  ⟨h2.1.trans h1.1, h2.2.1.trans h1.2.1, h2.2.2.trans h1.2.2⟩

theorem sameParameters_of_dot {s t : State} (h : OnlyDotEffects s t) : SameParameters s t := by
  refine ⟨?_, ?_, ?_⟩ <;> rw [h]

theorem sameParameters_of_apu {s t : State} (h : OnlyApuEffects s t) : SameParameters s t := by
  refine ⟨?_, ?_, ?_⟩ <;> rw [h]

theorem sameParameters_of_instr {s t : State} (h : OnlyInstructionEffects s t) : SameParameters s t := by
  refine ⟨?_, ?_, ?_⟩ <;> rw [h]

theorem runDots_parameters (n : Nat) (s : State) : SameParameters s (runDots n s) := by
  induction n generalizing s with
  | zero => exact ⟨rfl, rfl, rfl⟩
  | succ n ih =>
    unfold runDots
    dsimp only
    have h := sameParameters_of_dot (ppuDot_effects s)
    split
    · exact sameParameters_trans h ⟨rfl, rfl, rfl⟩
    · split
      · exact sameParameters_trans h ⟨rfl, rfl, rfl⟩
      · exact sameParameters_trans h (ih _)

theorem runDevices_parameters (s : State) : SameParameters s (runDevices s) :=
  sameParameters_trans (sameParameters_of_apu (clockFrameCounter_effects _ s)) (runDots_parameters _ _)

/-- Fetching an instruction: the reads of its bytes, and PC. -/
theorem fetch_effects (s : State) : OnlyRegisterEffects s (fetch s).2 := by
  have h1 := memRead_effects s.pc s
  have h2 := readEffects_trans h1 (memRead_effects (s.pc + 1) (memRead s.pc s).2)
  have h3 := readEffects_trans h2 (memRead_effects (s.pc + 2) (memRead (s.pc + 1) (memRead s.pc s).2).2)
  unfold fetch
  dsimp only
  split
  · exact registerEffects_trans (registerEffects_of_read h1) rfl
  · exact registerEffects_trans (registerEffects_of_read h2) rfl
  · exact registerEffects_trans (registerEffects_of_read h3) rfl

/-- The instruction step: what it can change. -/
theorem instructionStep_effects (s t : State) (h : instructionStep s = .next t) : OnlyInstructionEffects s t :=
  instrEffects_trans (instrEffects_of_register (fetch_effects s)) (exec_effects _ _ _ h)

theorem resetWith_parameters (m : Memory) (s : State) : SameParameters s (resetWith m s) := by
  unfold resetWith
  dsimp only
  have h := memRead16_effects resetVector (resetBlocks m s)
  refine ⟨?_, ?_, ?_⟩ <;> simp only [State.setPc] <;> rw [h] <;> rfl

/-- All a reset does: the blocks, then PC through the power-on windows. -/
theorem resetWith_eq (m : Memory) (s : State) : resetWith m s = (resetBlocks m s).setPc
    (joinBytes (prgRead (resetBlocks m s) 0xFFFD) (prgRead (resetBlocks m s) 0xFFFC)) := rfl

/-- The windows of MMC1 at power-on, for an image of legal length. -/
theorem mmc1_powerOn_windows (r : RomImage) (h : r.wellFormed = true) :
    (mmc1PrgWin Mmc1.powerOn r).toList = [0, 1, 2 * nb16 r - 2, 2 * nb16 r - 1] ∧
    (mmc1ChrWin Mmc1.powerOn r).toList = [0, 1, 2, 3, 4, 5, 6, 7] := by
  simp [RomImage.wellFormed] at h
  have h1 : 1 ≤ nb16 r := by simp [nb16]; omega
  have h2 : 1 % nc4 r = 1 := Nat.mod_eq_of_lt (by simp [nc4, nc1]; omega)
  constructor
  · show [2 * (0 % nb16 r), 2 * (0 % nb16 r) + 1, 2 * (nb16 r - 1), 2 * (nb16 r - 1) + 1] = _
    simp; omega
  · show [4 * (0 % nc4 r), 4 * (0 % nc4 r) + 1, 4 * (0 % nc4 r) + 2, 4 * (0 % nc4 r) + 3,
      4 * (1 % nc4 r), 4 * (1 % nc4 r) + 1, 4 * (1 % nc4 r) + 2, 4 * (1 % nc4 r) + 3] = _
    simp [h2]

/-- The windows of MMC3 at power-on, for an image of legal length. -/
theorem mmc3_powerOn_windows (r : RomImage) (h : r.wellFormed = true) :
    (mmc3PrgWin Mmc3.powerOn r).toList = [0, 1, nb8 r - 2, nb8 r - 1] ∧
    (mmc3ChrWin Mmc3.powerOn r).toList = [0, 1, 2, 3, 4, 5, 6, 7] := by
  simp [RomImage.wellFormed] at h
  have h1 : 2 ≤ nb8 r := by simp [nb8]; omega
  have h2 : 8 ≤ nc1 r := by simp [nc1]; omega
  constructor
  · show [0 % nb8 r, 1 % nb8 r, nb8 r - 2, nb8 r - 1] = _
    simp (disch := omega) [Nat.mod_eq_of_lt]
  · show [0 % nc1 r, 0 % nc1 r + 1, 2 % nc1 r, 2 % nc1 r + 1, 4 % nc1 r, 5 % nc1 r, 6 % nc1 r, 7 % nc1 r] = _
    simp (disch := omega) [Nat.mod_eq_of_lt]

/-- Every colour word is opaque, whatever `EMPHASIS` is (50_ppu R350; log 6). -/
theorem colour_opaque (s : State) (p : BitVec 6) : (colour s p).extractLsb' 24 8 = 0xFF#8 := by
  have h : ∀ w : BitVec 24, (0xFF#8 ++ w).extractLsb' 24 8 = 0xFF#8 := by
    intro w
    ext i hi
    simp only [BitVec.getElem_extractLsb', BitVec.getLsbD_append]
    simp
    rfl
  cases he : s.cfg.emphasis <;> simp only [colour, he, h]

theorem interruptEntry_eq (v : Word) (s : State) (h : 0x8000 ≤ v.toNat) (h' : v.toNat < 0xFFFF) :
    interruptEntry v s = { s with
      ram := Store.write (Store.write (Store.write s.ram (256 + s.sp.toNat) (hiByte s.pc)) (256 + (s.sp - 1).toNat) (loByte s.pc))
        (256 + (s.sp - 1 - 1).toNat) (s.p.image false)
      sp := s.sp - 1 - 1 - 1
      p := { s.p with i := true }
      pc := joinBytes (prgRead s (v.toNat + 1)) (prgRead s v.toNat)
      stepCycles := 7 } := by
  unfold interruptEntry
  rw [takeException_eq _ _ _ _ h h']
  rfl

/-- One CPU step never changes a parameter. -/
theorem emulate_parameters (s t : State) (h : emulate s = .next t) : SameParameters s t := by
  unfold emulate at h
  split at h
  · rw [← outcome_next_inj h]; exact ⟨rfl, rfl, rfl⟩
  · split at h
    · rw [← outcome_next_inj h]
      exact sameParameters_trans (t := performReset s) (resetWith_parameters _ s) ⟨rfl, rfl, rfl⟩
    · rw [← outcome_next_inj h, interruptEntry_eq _ _ (by decide) (by decide)]
      exact ⟨rfl, rfl, rfl⟩
    · rw [← outcome_next_inj h, interruptEntry_eq _ _ (by decide) (by decide)]
      exact ⟨rfl, rfl, rfl⟩
    · have h1 := sameParameters_of_instr (instructionStep_effects _ t h)
      refine sameParameters_trans ?_ h1
      unfold maskIrq
      split <;> exact ⟨rfl, rfl, rfl⟩
    · exact sameParameters_of_instr (instructionStep_effects _ t h)

/-- The cases of a step that goes on: a resume, or a CPU step followed by the devices. -/
theorem step_cases {s t : State} (h : step s = .next t) :
    (s.runState = .midFrameBreak ∧ t = resumeFrame s) ∨
    (s.runState = .running ∧ ∃ u, emulate (if s.inFrame then s else beginFrame s) = .next u ∧ t = runDevices u) := by
  unfold step frameTurn at h
  split at h
  · cases h
  · cases h
  · next hr => exact .inl ⟨hr, (outcome_next_inj h).symm⟩
  · next hr =>
    refine .inr ⟨hr, ?_⟩
    unfold loopTurn at h
    split at h
    · next u hu => exact ⟨u, hu, (outcome_next_inj h).symm⟩
    · cases h
    · cases h

end Sys2Proof.Machine
end

