-- ==== Sys2Proof/Laws/Dots.lean ====
section
/-! SUPPORT. The raster position and the frame end over a dot: what the end of a scanline and one dot do to `scanline`, `curX`,
`requestEndFrame` and `nmiCounter` (50_ppu R303, R305, R306), what rendering leaves alone,
and that a dot does not depend on the inputs. -/

namespace Sys2Proof.Machine

@[simp] theorem clockIrqCounter_ppu (s : State) : (clockIrqCounter s).ppu = s.ppu := by
  unfold clockIrqCounter mmc3Set
  split
  · rfl
  · rfl
  · dsimp only; split <;> rfl

@[simp] theorem scanlineClock_ppu (s : State) : (scanlineClock s).ppu = s.ppu := by
  unfold scanlineClock
  split
  · exact clockIrqCounter_ppu s
  · rfl

/-- Two PPU states agree on the position, the frame end, the control registers and the two flags rendering does not touch. -/
structure SamePosition (u v : Ppu) : Prop where
  scanline : v.scanline = u.scanline
  curX : v.curX = u.curX
  requestEndFrame : v.requestEndFrame = u.requestEndFrame
  nmiCounter : v.nmiCounter = u.nmiCounter
  ctrl : v.ctrl = u.ctrl
  mask : v.mask = u.mask
  vblank : v.vblank = u.vblank
  spr0Hit : v.spr0Hit = u.spr0Hit
  oddFrame : v.oddFrame = u.oddFrame

theorem samePosition_refl (u : Ppu) : SamePosition u u := ⟨rfl, rfl, rfl, rfl, rfl, rfl, rfl, rfl, rfl⟩

theorem samePosition_trans {u v w : Ppu} (h : SamePosition u v) (k : SamePosition v w) : SamePosition u w :=
  ⟨k.1.trans h.1, k.2.trans h.2, k.3.trans h.3, k.4.trans h.4, k.5.trans h.5, k.6.trans h.6, k.7.trans h.7, k.8.trans h.8,
    k.9.trans h.9⟩

theorem renderLine_position (y : Nat) (s : State) : SamePosition s.ppu (renderLine y s).ppu := by
  unfold renderLine storeRow renderedPpu Ppu.recordSprite0
  split
  · dsimp only
    split <;> exact ⟨rfl, rfl, rfl, rfl, rfl, rfl, rfl, rfl, rfl⟩
  · exact ⟨rfl, rfl, rfl, rfl, rfl, rfl, rfl, rfl, rfl⟩

theorem verticalReload_position (s : State) : SamePosition s.ppu (verticalReload s).ppu := by
  unfold verticalReload
  split <;> exact ⟨rfl, rfl, rfl, rfl, rfl, rfl, rfl, rfl, rfl⟩

/-- The end of scanline 19 skips a dot on this frame (50_ppu R309). -/
def skipsDot (s : State) : Prop :=
  s.ppu.scanline = 19 ∧ s.cfg.oddFrameSkip = true ∧ s.ppu.oddFrame = true ∧ s.ppu.mask.getLsbD 3 = true

theorem endScanline_last (s : State) (h : s.ppu.scanline + 1 = s.cfg.scanlinesPerFrame) :
    endScanline s = { s with ppu := enterVBlank s.cfg.nmiDelayDots s.ppu } := by
  unfold endScanline
  dsimp only
  rw [if_pos h]

/-- The end of a scanline that is not the last: the next scanline; the column only moves by the skip, the rest stays. -/
theorem endScanline_position (s : State) (h : s.ppu.scanline + 1 ≠ s.cfg.scanlinesPerFrame) :
    let t := (endScanline s).ppu
    t.scanline = s.ppu.scanline + 1 ∧ (t.curX = s.ppu.curX ∨ skipsDot s ∧ t.curX = 1) ∧
    t.requestEndFrame = s.ppu.requestEndFrame ∧ t.nmiCounter = s.ppu.nmiCounter ∧ t.ctrl = s.ppu.ctrl ∧
    t.mask = s.ppu.mask ∧ t.oddFrame = s.ppu.oddFrame ∧ (s.ppu.scanline ≠ 19 → t.spr0Hit = s.ppu.spr0Hit) ∧
    (s.ppu.scanline = 19 → t.spr0Hit = false) := by
  intro t
  have of : ∀ u : State, SamePosition s.ppu u.ppu → s.ppu.scanline ≠ 19 →
      t = { u.ppu with scanline := s.ppu.scanline + 1 } →
      t.scanline = s.ppu.scanline + 1 ∧ (t.curX = s.ppu.curX ∨ skipsDot s ∧ t.curX = 1) ∧
      t.requestEndFrame = s.ppu.requestEndFrame ∧ t.nmiCounter = s.ppu.nmiCounter ∧ t.ctrl = s.ppu.ctrl ∧
      t.mask = s.ppu.mask ∧ t.oddFrame = s.ppu.oddFrame ∧ (s.ppu.scanline ≠ 19 → t.spr0Hit = s.ppu.spr0Hit) ∧
      (s.ppu.scanline = 19 → t.spr0Hit = false) := by
    intro u hu hn ht
    rw [ht]
    exact ⟨rfl, .inl hu.curX, hu.requestEndFrame, hu.nmiCounter, hu.ctrl, hu.mask, hu.oddFrame, fun _ => hu.spr0Hit,
      fun h => absurd h hn⟩
  by_cases h19 : s.ppu.scanline = 19
  · have ht : t = { enterPreRender s.cfg.oddFrameSkip s.ppu with scanline := s.ppu.scanline + 1 } := by
      simp only [t]
      unfold endScanline
      dsimp only
      rw [if_neg h, if_pos h19]
    rw [ht]
    refine ⟨rfl, ?_, rfl, rfl, rfl, rfl, rfl, fun h => absurd h19 h, fun _ => rfl⟩
    by_cases hs : (s.cfg.oddFrameSkip && s.ppu.oddFrame && s.ppu.mask.getLsbD 3) = true
    · right
      have hs' := hs
      simp only [Bool.and_eq_true] at hs'
      exact ⟨⟨h19, hs'.1.1, hs'.1.2, hs'.2⟩, by simp only [enterPreRender, hs, if_true]⟩
    · left
      simp only [enterPreRender, hs]
      rfl
  · by_cases h20 : s.ppu.scanline = 20
    · have k := renderLine_position 0 (scanlineClock (verticalReload s))
      rw [scanlineClock_ppu] at k
      refine of (renderLine 0 (scanlineClock (verticalReload s))) (samePosition_trans (verticalReload_position s) k) h19 ?_
      simp only [t]
      unfold endScanline
      dsimp only
      rw [if_neg h, if_neg h19, if_pos h20]
    · by_cases hr : 21 ≤ s.ppu.scanline ∧ s.ppu.scanline ≤ 259
      · have k := renderLine_position (s.ppu.scanline - 20) (scanlineClock s)
        rw [scanlineClock_ppu] at k
        refine of (renderLine (s.ppu.scanline - 20) (scanlineClock s)) k h19 ?_
        simp only [t]
        unfold endScanline
        dsimp only
        rw [if_neg h, if_neg h19, if_neg h20, if_pos hr]
      · refine of s (samePosition_refl _) h19 ?_
        simp only [t]
        unfold endScanline
        dsimp only
        rw [if_neg h, if_neg h19, if_neg h20, if_neg hr]

theorem sprite0Dot_fields (u : Ppu) :
    u.sprite0Dot.scanline = u.scanline ∧ u.sprite0Dot.curX = u.curX ∧
    u.sprite0Dot.requestEndFrame = u.requestEndFrame ∧ u.sprite0Dot.nmiCounter = u.nmiCounter ∧
    u.sprite0Dot.ctrl = u.ctrl ∧ u.sprite0Dot.mask = u.mask ∧ u.sprite0Dot.oddFrame = u.oddFrame := by
  unfold Ppu.sprite0Dot
  split <;> exact ⟨rfl, rfl, rfl, rfl, rfl, rfl, rfl⟩

/-- A dot that ends the frame: the position stays, the request is cleared (50_ppu R303, R306, R307). -/
theorem ppuDot_ends (s : State) (h : s.ppu.requestEndFrame = true) (hc : s.ppu.nmiCounter ≤ 1) :
    (ppuDot s).1 = true ∧ (ppuDot s).2.ppu.requestEndFrame = false ∧ (ppuDot s).2.ppu.scanline = s.ppu.scanline ∧
    (ppuDot s).2.ppu.curX = s.ppu.curX ∧ (ppuDot s).2.nmiPending = (s.nmiPending || s.ppu.ctrl.getLsbD 7) := by
  obtain ⟨e3, e4, e1, e2, e5, _⟩ := sprite0Dot_fields s.ppu
  unfold ppuDot
  simp only [e1, e2, h, if_true, show s.ppu.nmiCounter - 1 = 0 by omega]
  unfold startVBlank requestIrq
  simp only [e5]
  split
  · next hb => exact ⟨trivial, rfl, e3, e4, by rw [hb, Bool.or_true]⟩
  · next hb => exact ⟨trivial, rfl, e3, e4, by rw [Bool.not_eq_true] at hb; rw [hb, Bool.or_false]⟩

/-- The PPU after part 1 of a dot that does not end the frame, with the debounce counted. -/
def countedPpu (u : Ppu) : Ppu :=
  if u.requestEndFrame then { u.sprite0Dot with nmiCounter := u.sprite0Dot.nmiCounter - 1 } else u.sprite0Dot

/-- A dot that does not end the frame is the next position over the counted PPU (50_ppu R303, R306). -/
theorem ppuDot_goes (s : State) (h : s.ppu.requestEndFrame = true → 2 ≤ s.ppu.nmiCounter) :
    ppuDot s = (false, advanceDot { s with ppu := countedPpu s.ppu }) := by
  obtain ⟨_, _, e1, e2, _⟩ := sprite0Dot_fields s.ppu
  unfold ppuDot countedPpu
  by_cases hr : s.ppu.requestEndFrame = true
  · have := h hr
    simp only [e1, e2, hr, if_true, show ¬ s.ppu.nmiCounter - 1 = 0 by omega, if_false]
  · simp only [e1, hr]
    rfl

theorem countedPpu_fields (u : Ppu) :
    (countedPpu u).scanline = u.scanline ∧ (countedPpu u).curX = u.curX ∧
    (countedPpu u).requestEndFrame = u.requestEndFrame ∧
    (countedPpu u).nmiCounter = (if u.requestEndFrame then u.nmiCounter - 1 else u.nmiCounter) ∧
    (countedPpu u).ctrl = u.ctrl ∧ (countedPpu u).mask = u.mask ∧ (countedPpu u).oddFrame = u.oddFrame := by
  obtain ⟨e1, e2, e3, e4, e5, e6, e7⟩ := sprite0Dot_fields u
  unfold countedPpu
  split
  · exact ⟨e1, e2, e3, by rw [e4], e5, e6, e7⟩
  · exact ⟨e1, e2, e3, e4, e5, e6, e7⟩

/-- The state after one dot more. -/
theorem dotsAfter_succ (n : Nat) (s : State) : dotsAfter (n + 1) s = (ppuDot (dotsAfter n s)).2 := by
  induction n generalizing s with
  | zero => rfl
  | succ n ih => exact ih _

theorem dotsAfter_cfg (n : Nat) (s : State) : (dotsAfter n s).cfg = s.cfg := by
  induction n with
  | zero => rfl
  | succ n ih => rw [dotsAfter_succ, (sameParameters_of_dot (ppuDot_effects _)).1, ih]

/-- The state with other inputs. -/
def withInputs (i : Inputs) (s : State) : State := { s with inputs := i }

theorem firstOpaque_inputs (i : Inputs) (s : State) (y x : Nat) (l : List Sprite) :
    firstOpaque (withInputs i s) y x l = firstOpaque s y x l := by
  induction l with
  | nil => rfl
  | cons sp rest ih =>
    unfold firstOpaque
    rw [ih]
    rfl

theorem pixel_inputs (i : Inputs) (s : State) (l : List Sprite) (y x : Nat) :
    pixel (withInputs i s) l y x = pixel s l y x := by
  have h : spritePixel (withInputs i s) l y x = spritePixel s l y x := by
    unfold spritePixel
    rw [firstOpaque_inputs]
    rfl
  unfold pixel
  rw [h]
  rfl

theorem renderLine_inputs (i : Inputs) (y : Nat) (s : State) : renderLine y (withInputs i s) = withInputs i (renderLine y s) := by
  have hr : ∀ u : State, renderedRow (withInputs i u) y = renderedRow u y := by
    intro u
    unfold renderedRow
    exact List.map_congr_left fun x _ => pixel_inputs i u _ y x
  have hp : ∀ u : State, renderedPpu (withInputs i u) y = renderedPpu u y := fun _ => rfl
  by_cases h : s.ppu.rendering = true
  · have e : ∀ u : State, u.ppu.rendering = true →
        renderLine y u = storeRow y (renderedRow { u with ppu := { u.ppu with v := horizontalReload u.ppu.v u.ppu.t } } y)
          { u with ppu := renderedPpu { u with ppu := { u.ppu with v := horizontalReload u.ppu.v u.ppu.t } } y } := by
      intro u hu
      unfold renderLine
      rw [if_pos hu]
    rw [e s h, e (withInputs i s) h]
    have h1 := hr { s with ppu := { s.ppu with v := horizontalReload s.ppu.v s.ppu.t } }
    have h2 := hp { s with ppu := { s.ppu with v := horizontalReload s.ppu.v s.ppu.t } }
    unfold withInputs at *
    dsimp only at *
    rw [h1, h2]
    rfl
  · unfold renderLine
    rw [if_neg h, if_neg (show ¬ (withInputs i s).ppu.rendering = true from h)]
    rfl

theorem clockIrqCounter_inputs (i : Inputs) (s : State) :
    clockIrqCounter (withInputs i s) = withInputs i (clockIrqCounter s) := by
  have e : (withInputs i s).mapper.regs = s.mapper.regs := rfl
  unfold clockIrqCounter
  rw [e]
  cases s.mapper.regs with
  | nrom => rfl
  | mmc1 r => rfl
  | mmc3 r => dsimp only; split <;> rfl

theorem scanlineClock_inputs (i : Inputs) (s : State) : scanlineClock (withInputs i s) = withInputs i (scanlineClock s) := by
  unfold scanlineClock
  rw [clockIrqCounter_inputs, show (withInputs i s).ppu.rendering = s.ppu.rendering from rfl]
  split <;> rfl

theorem verticalReload_inputs (i : Inputs) (s : State) : verticalReload (withInputs i s) = withInputs i (verticalReload s) := by
  unfold verticalReload
  rw [show (withInputs i s).ppu.rendering = s.ppu.rendering from rfl]
  split <;> rfl

theorem endScanline_inputs (i : Inputs) (s : State) : endScanline (withInputs i s) = withInputs i (endScanline s) := by
  unfold endScanline
  simp only [verticalReload_inputs, scanlineClock_inputs, renderLine_inputs, show (withInputs i s).ppu = s.ppu from rfl,
    show (withInputs i s).cfg = s.cfg from rfl]
  split_ifs <;> rfl

theorem advanceDot_inputs (i : Inputs) (s : State) : advanceDot (withInputs i s) = withInputs i (advanceDot s) := by
  unfold advanceDot
  rw [show (withInputs i s).ppu = s.ppu from rfl]
  split
  · exact endScanline_inputs i { s with ppu := { s.ppu with curX := 0 } }
  · rfl

/-- A dot neither reads nor changes the inputs. -/
theorem ppuDot_inputs (i : Inputs) (s : State) : ppuDot (withInputs i s) = ((ppuDot s).1, withInputs i (ppuDot s).2) := by
  by_cases h : s.ppu.requestEndFrame = true ∧ s.ppu.nmiCounter ≤ 1
  · obtain ⟨_, _, e1, e2, _⟩ := sprite0Dot_fields s.ppu
    unfold ppuDot
    simp only [show (withInputs i s).ppu = s.ppu from rfl, e1, e2, h.1, if_true, show s.ppu.nmiCounter - 1 = 0 by omega]
    unfold startVBlank
    dsimp only
    split <;> rfl
  · have hg : s.ppu.requestEndFrame = true → 2 ≤ s.ppu.nmiCounter := fun hr => by
      by_contra hh
      exact h ⟨hr, by omega⟩
    rw [ppuDot_goes s hg, ppuDot_goes (withInputs i s) hg]
    exact congrArg (Prod.mk false) (advanceDot_inputs i { s with ppu := countedPpu s.ppu })

end Sys2Proof.Machine
end

