-- ==== Sys2Proof/Laws/Invariants.lean ====
section
/-! SUPPORT. Every operation on memory keeps the canonical form of every memory, and every bus access keeps the bank windows
inside the image. -/

namespace Sys2Proof.Machine

/-- The ten memories in canonical form, as a proposition with named parts. -/
structure Canonical (s : State) : Prop where
  ram          : Memory.wf s.ram = true
  prgRam       : Memory.wf s.mapper.prgRam = true
  chrRam       : Memory.wf s.mapper.chrRam = true
  oam          : Memory.wf s.ppu.oam = true
  nametableRam : Memory.wf s.ppu.nametableRam = true
  paletteRam   : Store.wf s.ppu.paletteRam = true
  ramInit      : Memory.wf s.cfg.ramInit = true
  prgRamInit   : Memory.wf s.cfg.prgRamInit = true
  prg          : Memory.wf s.rom.prg = true
  chr          : Memory.wf s.rom.chr = true

theorem canonical_iff (s : State) : s.canonical = true ↔ Canonical s := by
  unfold State.canonical
  simp only [Bool.and_eq_true]
  constructor
  · rintro ⟨⟨⟨⟨⟨⟨⟨⟨⟨h1, h2⟩, h3⟩, h4⟩, h5⟩, h6⟩, h7⟩, h8⟩, h9⟩, h10⟩
    exact ⟨h1, h2, h3, h4, h5, h6, h7, h8, h9, h10⟩
  · rintro ⟨h1, h2, h3, h4, h5, h6, h7, h8, h9, h10⟩
    exact ⟨⟨⟨⟨⟨⟨⟨⟨⟨h1, h2⟩, h3⟩, h4⟩, h5⟩, h6⟩, h7⟩, h8⟩, h9⟩, h10⟩

/-- A read keeps the canonical form. -/
theorem memRead_canonical (a : Word) (s : State) (h : Canonical s) : Canonical (memRead a s).2 := by
  rw [memRead_effects a s]
  exact ⟨h.1, h.2, h.3, h.4, h.5, h.6, h.7, h.8, h.9, h.10⟩

theorem mapperSetMirroring_canonical (m : Mirroring) (s : State) (h : Canonical s) : Canonical (mapperSetMirroring m s) := by
  unfold mapperSetMirroring
  split
  · exact h
  · exact ⟨h.1, h.2, h.3, h.4, h.5, h.6, h.7, h.8, h.9, h.10⟩

theorem mapperWrite8_canonical (a : Word) (v : Byte) (s : State) (h : Canonical s) : Canonical (mapperWrite8 a v s) := by
  have hm : ∀ (m : Mapper), m.prgRam = s.mapper.prgRam → m.chrRam = s.mapper.chrRam → Canonical { s with mapper := m } := by
    intro m h1 h2
    exact ⟨h.1, by rw [h1]; exact h.2, by rw [h2]; exact h.3, h.4, h.5, h.6, h.7, h.8, h.9, h.10⟩
  have hu : ∀ r, Canonical (mmc1Update r s) := by
    intro r
    unfold mmc1Update
    dsimp only
    split
    · exact mapperSetMirroring_canonical _ _ (hm _ rfl rfl)
    · exact hm _ rfl rfl
  unfold mapperWrite8
  split
  · exact h
  · unfold mmc1Write
    dsimp only
    split
    · exact hu _
    · split
      · exact hu _
      · exact hm _ rfl rfl
  · unfold mmc3Write mmc3Update mmc3Set
    split <;> first | exact hm _ rfl rfl | exact mapperSetMirroring_canonical _ _ h

theorem ppuWrite_canonical (s : State) (a : Nat) (v : Byte) (h : Canonical s) : Canonical (ppuWrite s a v) := by
  unfold ppuWrite chrWrite
  dsimp only
  split
  · split
    · exact ⟨h.1, h.2, store_wf_write _ _ _ h.3, h.4, h.5, h.6, h.7, h.8, h.9, h.10⟩
    · exact h
  · split
    · exact ⟨h.1, h.2, h.3, h.4, store_wf_write _ _ _ h.5, h.6, h.7, h.8, h.9, h.10⟩
    · exact ⟨h.1, h.2, h.3, h.4, h.5, store_wf_write _ _ _ h.6, h.7, h.8, h.9, h.10⟩

theorem ppuRegWrite_canonical (r : Nat) (v : Byte) (s : State) (h : Canonical s) : Canonical (ppuRegWrite r v s) := by
  have hp : ∀ u : Ppu, u.oam = s.ppu.oam → u.nametableRam = s.ppu.nametableRam → u.paletteRam = s.ppu.paletteRam →
      Canonical { s with ppu := u } := by
    intro u h1 h2 h3
    exact ⟨h.1, h.2, h.3, by rw [h1]; exact h.4, by rw [h2]; exact h.5, by rw [h3]; exact h.6, h.7, h.8, h.9, h.10⟩
  unfold ppuRegWrite
  split
  · exact hp _ rfl rfl rfl
  · exact hp _ rfl rfl rfl
  · exact h
  · exact hp _ rfl rfl rfl
  · exact ⟨h.1, h.2, h.3, store_wf_write _ _ _ h.4, h.5, h.6, h.7, h.8, h.9, h.10⟩
  · unfold Ppu.writeScroll
    split <;> exact hp _ rfl rfl rfl
  · unfold Ppu.writeAddr
    split <;> exact hp _ rfl rfl rfl
  · have k := ppuWrite_canonical s s.ppu.v.toNat v h
    exact ⟨k.1, k.2, k.3, k.4, k.5, k.6, k.7, k.8, k.9, k.10⟩

theorem dmaCopy_canonical (n i : Nat) (page : Byte) (s : State) (h : Canonical s) : Canonical (dmaCopy n i page s) := by
  induction n generalizing i s with
  | zero => exact h
  | succ n ih =>
    have k := memRead_canonical (joinBytes page (BitVec.ofNat 8 i)) s h
    exact ih _ _ ⟨k.1, k.2, k.3, store_wf_write _ _ _ k.4, k.5, k.6, k.7, k.8, k.9, k.10⟩

/-- A write keeps the canonical form. -/
theorem memWrite_canonical (a : Word) (v : Byte) (s : State) (h : Canonical s) : Canonical (memWrite a v s) := by
  unfold memWrite
  split
  · exact ⟨store_wf_write _ _ _ h.1, h.2, h.3, h.4, h.5, h.6, h.7, h.8, h.9, h.10⟩
  · exact ppuRegWrite_canonical _ _ _ h
  · exact ⟨h.1, h.2, h.3, h.4, h.5, h.6, h.7, h.8, h.9, h.10⟩
  · have k := dmaCopy_canonical 256 0 v s h
    unfold oamDma
    exact ⟨k.1, k.2, k.3, k.4, k.5, k.6, k.7, k.8, k.9, k.10⟩
  · exact ⟨h.1, h.2, h.3, h.4, h.5, h.6, h.7, h.8, h.9, h.10⟩
  · unfold writeStrobe
    split <;> exact ⟨h.1, h.2, h.3, h.4, h.5, h.6, h.7, h.8, h.9, h.10⟩
  · exact ⟨h.1, h.2, h.3, h.4, h.5, h.6, h.7, h.8, h.9, h.10⟩
  · exact h
  · exact h
  · split
    · exact ⟨h.1, store_wf_write _ _ _ h.2, h.3, h.4, h.5, h.6, h.7, h.8, h.9, h.10⟩
    · exact h
  · exact mapperWrite8_canonical _ _ _ h

/-- The windows of a mapper lie inside an image. -/
def Inside (m : Mapper) (rom : RomImage) : Prop :=
  (∀ k, (hk : k < 4) → m.prgWin[k] < nb8 rom) ∧ ∀ k, (hk : k < 8) → m.chrWin[k] < nc1 rom

theorem windowsOk_iff (s : State) : s.windowsOk = true ↔ Inside s.mapper s.rom ∧ s.rom.wellFormed = true := by
  have h : ∀ (k n : Nat) (v : Vector Nat k), (∀ x, x ∈ v.toList → x < n) ↔ ∀ j, (hj : j < k) → v[j] < n := by
    intro k n v
    simp only [Vector.mem_toList_iff]
    constructor
    · intro h j hj
      exact h _ (Vector.getElem_mem hj)
    · intro h x hx
      obtain ⟨j, hj, rfl⟩ := Vector.getElem_of_mem hx
      exact h j hj
  unfold State.windowsOk Inside
  simp only [Bool.and_eq_true, List.all_eq_true, decide_eq_true_eq, h]

/-- The bank counts of a well-formed image: at least two PRG banks of 8 KB, an even number; CHR banks of 1 KB by the eight. -/
theorem bank_counts {r : RomImage} (h : r.wellFormed = true) :
    nb8 r = 2 * nb16 r ∧ 0 < nb16 r ∧ nc1 r = 4 * nc4 r ∧ 2 ≤ nc4 r ∧ nc1 r % 8 = 0 := by
  unfold RomImage.wellFormed at h
  simp only [Bool.and_eq_true, decide_eq_true_eq] at h
  unfold nb8 nb16 nc4 nc1
  omega

theorem mmc1Win_inside {rom : RomImage} (h : rom.wellFormed = true) (r : Mmc1) :
    (∀ k, (hk : k < 4) → (mmc1PrgWin r rom)[k] < nb8 rom) ∧ ∀ k, (hk : k < 8) → (mmc1ChrWin r rom)[k] < nc1 rom := by
  obtain ⟨h1, h2, h3, h4, _⟩ := bank_counts h
  have lt : ∀ a n : Nat, 0 < n → a % n < n := fun a n hn => Nat.mod_lt a hn
  constructor
  · intro k hk
    unfold mmc1PrgWin
    dsimp only
    have lo : ∀ x, x < nb16 rom → 2 * x < nb8 rom ∧ 2 * x + 1 < nb8 rom := by intro x hx; omega
    have a : (if (r.control.extractLsb' 2 2).toNat < 2 then 2 * ((r.prgBank.extractLsb' 0 4).toNat / 2) % nb16 rom
        else if (r.control.extractLsb' 2 2).toNat = 2 then 0 else (r.prgBank.extractLsb' 0 4).toNat % nb16 rom) < nb16 rom := by
      split
      · exact lt _ _ h2
      · split
        · exact h2
        · exact lt _ _ h2
    have b : (if (r.control.extractLsb' 2 2).toNat < 2 then (2 * ((r.prgBank.extractLsb' 0 4).toNat / 2) + 1) % nb16 rom
        else if (r.control.extractLsb' 2 2).toNat = 2 then (r.prgBank.extractLsb' 0 4).toNat % nb16 rom else nb16 rom - 1) < nb16 rom := by
      split
      · exact lt _ _ h2
      · split
        · exact lt _ _ h2
        · omega
    match k, hk with
    | 0, _ => exact (lo _ a).1
    | 1, _ => exact (lo _ a).2
    | 2, _ => exact (lo _ b).1
    | 3, _ => exact (lo _ b).2
  · intro k hk
    unfold mmc1ChrWin
    dsimp only
    have a : (if r.control.getLsbD 4 then r.chrBank0.toNat % nc4 rom else 2 * (r.chrBank0.toNat / 2) % nc4 rom) < nc4 rom := by
      split <;> exact lt _ _ (by omega)
    have b : (if r.control.getLsbD 4 then r.chrBank1.toNat % nc4 rom else (2 * (r.chrBank0.toNat / 2) + 1) % nc4 rom) < nc4 rom := by
      split <;> exact lt _ _ (by omega)
    have lo : ∀ x, x < nc4 rom → 4 * x < nc1 rom ∧ 4 * x + 1 < nc1 rom ∧ 4 * x + 2 < nc1 rom ∧ 4 * x + 3 < nc1 rom := by
      intro x hx
      omega
    match k, hk with
    | 0, _ => exact (lo _ a).1
    | 1, _ => exact (lo _ a).2.1
    | 2, _ => exact (lo _ a).2.2.1
    | 3, _ => exact (lo _ a).2.2.2
    | 4, _ => exact (lo _ b).1
    | 5, _ => exact (lo _ b).2.1
    | 6, _ => exact (lo _ b).2.2.1
    | 7, _ => exact (lo _ b).2.2.2

theorem even_bank {n : Nat} (h : n % 8 = 0) (hn : 0 < n) (b : Byte) :
    (b &&& 0xFE#8).toNat % n < n ∧ (b &&& 0xFE#8).toNat % n + 1 < n := by
  have hb : ∀ b : Byte, (b &&& 0xFE#8).toNat % 2 = 0 := by decide
  have he := hb b
  have hl := Nat.mod_lt (b &&& 0xFE#8).toNat hn
  have hm : (b &&& 0xFE#8).toNat % n % 2 = 0 := by
    rw [Nat.mod_mod_of_dvd _ (by omega : 2 ∣ n)]
    exact he
  omega

theorem mmc3Win_inside {rom : RomImage} (h : rom.wellFormed = true) (r : Mmc3) :
    (∀ k, (hk : k < 4) → (mmc3PrgWin r rom)[k] < nb8 rom) ∧ ∀ k, (hk : k < 8) → (mmc3ChrWin r rom)[k] < nc1 rom := by
  obtain ⟨h1, h2, h3, h4, h5⟩ := bank_counts h
  have lt : ∀ a n : Nat, 0 < n → a % n < n := fun a n hn => Nat.mod_lt a hn
  constructor
  · intro k hk
    have hp : 0 < nb8 rom := by omega
    unfold mmc3PrgWin
    dsimp only
    split
    · match k, hk with
      | 0, _ => show nb8 rom - 2 < nb8 rom; omega
      | 1, _ => exact lt _ _ hp
      | 2, _ => exact lt _ _ hp
      | 3, _ => show nb8 rom - 1 < nb8 rom; omega
    · match k, hk with
      | 0, _ => exact lt _ _ hp
      | 1, _ => exact lt _ _ hp
      | 2, _ => show nb8 rom - 2 < nb8 rom; omega
      | 3, _ => show nb8 rom - 1 < nb8 rom; omega
  · intro k hk
    have hp : 0 < nc1 rom := by omega
    unfold mmc3ChrWin
    dsimp only
    split
    · match k, hk with
      | 0, _ => exact lt _ _ hp
      | 1, _ => exact lt _ _ hp
      | 2, _ => exact lt _ _ hp
      | 3, _ => exact lt _ _ hp
      | 4, _ => exact (even_bank h5 hp _).1
      | 5, _ => exact (even_bank h5 hp _).2
      | 6, _ => exact (even_bank h5 hp _).1
      | 7, _ => exact (even_bank h5 hp _).2
    · match k, hk with
      | 0, _ => exact (even_bank h5 hp _).1
      | 1, _ => exact (even_bank h5 hp _).2
      | 2, _ => exact (even_bank h5 hp _).1
      | 3, _ => exact (even_bank h5 hp _).2
      | 4, _ => exact lt _ _ hp
      | 5, _ => exact lt _ _ hp
      | 6, _ => exact lt _ _ hp
      | 7, _ => exact lt _ _ hp

/-- The windows at power-on lie inside the image. -/
theorem powerOn_inside {rom : RomImage} (h : rom.wellFormed = true) (m : Memory) : Inside (Mapper.powerOn rom m) rom := by
  obtain ⟨h1, h2, h3, h4, _⟩ := bank_counts h
  have lt : ∀ a n : Nat, 0 < n → a % n < n := fun a n hn => Nat.mod_lt a hn
  unfold Mapper.powerOn
  split
  · constructor
    · intro k hk
      have hp : 0 < nb8 rom := by omega
      match k, hk with
      | 0, _ => exact lt 0 _ hp
      | 1, _ => exact lt 1 _ hp
      | 2, _ => exact lt 2 _ hp
      | 3, _ => exact lt 3 _ hp
    · intro k hk
      have : 8 ≤ nc1 rom := by omega
      match k, hk with
      | 0, _ => show 0 < nc1 rom; omega
      | 1, _ => show 1 < nc1 rom; omega
      | 2, _ => show 2 < nc1 rom; omega
      | 3, _ => show 3 < nc1 rom; omega
      | 4, _ => show 4 < nc1 rom; omega
      | 5, _ => show 5 < nc1 rom; omega
      | 6, _ => show 6 < nc1 rom; omega
      | 7, _ => show 7 < nc1 rom; omega
  · exact mmc1Win_inside h _
  · exact mmc3Win_inside h _

theorem mapperSetMirroring_mapper (m : Mirroring) (s : State) : (mapperSetMirroring m s).mapper = s.mapper := by
  unfold mapperSetMirroring
  split <;> rfl

/-- A write to a mapper keeps the windows inside the image. -/
theorem mapperWrite8_inside (a : Word) (v : Byte) (s : State) (hr : s.rom.wellFormed = true) (h : Inside s.mapper s.rom) :
    Inside (mapperWrite8 a v s).mapper s.rom := by
  have hu : ∀ r, Inside (mmc1Update r s).mapper s.rom := by
    intro r
    unfold mmc1Update
    dsimp only
    split
    · rw [mapperSetMirroring_mapper]
      exact mmc1Win_inside hr r
    · exact mmc1Win_inside hr r
  unfold mapperWrite8
  split
  · exact h
  · unfold mmc1Write
    dsimp only
    split
    · exact hu _
    · split
      · exact hu _
      · exact h
  · unfold mmc3Write mmc3Update mmc3Set
    split <;> first | exact h | exact mmc3Win_inside hr _ | (rw [mapperSetMirroring_mapper]; exact h)

end Sys2Proof.Machine
end

