-- ==== Sys2Proof/Laws/Keeps.lean ====
section
/-! SUPPORT. One induction over what a step does: a property kept by register updates and reads, by writes, by dots, by the start
of a frame and by a reset is kept by every step; and a measure of the raster position over a dot. -/

namespace Sys2Proof.Machine

/-- `t` differs from `s` at most where an update that is no bus write, no dot and no reset may have an effect: registers, latches,
stall counter, host bookkeeping, the APU, and what reads change. -/
def OnlyOwnEffects (s t : State) : Prop :=
  t = { s with
    a := t.a
    x := t.x
    y := t.y
    sp := t.sp
    pc := t.pc
    p := t.p
    cyclesToHalt := t.cyclesToHalt
    nmiPending := t.nmiPending
    irqPending := t.irqPending
    resetMark := t.resetMark
    ppu := { s.ppu with vblank := t.ppu.vblank, w := t.ppu.w, readBuffer := t.ppu.readBuffer, v := t.ppu.v }
    apu := t.apu
    runState := t.runState
    breakpointCycles := t.breakpointCycles
    ctrlShift0 := t.ctrlShift0
    ctrlShift1 := t.ctrlShift1
    draws := t.draws
    stepCycles := t.stepCycles
    inFrame := t.inFrame
    samples := t.samples }

theorem ownEffects_of_register {s t : State} (h : OnlyRegisterEffects s t) : OnlyOwnEffects s t := by
  unfold OnlyRegisterEffects OnlyOwnEffects at *
  rw [h]

theorem ownEffects_of_read {s t : State} (h : OnlyReadEffects s t) : OnlyOwnEffects s t :=
  ownEffects_of_register (registerEffects_of_read h)

theorem ownEffects_of_apu {s t : State} (h : OnlyApuEffects s t) : OnlyOwnEffects s t := by
  unfold OnlyApuEffects OnlyOwnEffects at *
  rw [h]

/-- A property every part of a step keeps. -/
structure Keeps (P : State → Prop) : Prop where
  own   : ∀ {s t}, OnlyOwnEffects s t → P s → P t
  write : ∀ a v s, P s → P (memWrite a v s)
  dot   : ∀ s, P s → P (ppuDot s).2
  start : ∀ s, P s → P { s with ppu := s.ppu.startFrame }
  reset : ∀ s, P s → P (performReset s)

variable {P : State → Prop}

theorem keeps_push (K : Keeps P) (v : Byte) (s : State) (h : P s) : P (push v s) :=
  K.own (s := memWrite (stackAddr s.sp) v s) rfl (K.write _ _ _ h)

theorem keeps_push16 (K : Keeps P) (w : Word) (s : State) (h : P s) : P (push16 w s) :=
  keeps_push K _ _ (keeps_push K _ _ h)

theorem keeps_takeException (K : Keeps P) (ret : Word) (b : Bool) (vector : Word) (s : State) (h : P s) :
    P (takeException ret b vector s) := by
  have h1 := keeps_push K (s.p.image b) _ (keeps_push16 K ret s h)
  have h2 : P ((push (s.p.image b) (push16 ret s)).setP { (push (s.p.image b) (push16 ret s)).p with i := true }) :=
    K.own (s := push (s.p.image b) (push16 ret s)) rfl h1
  have h3 := K.own (ownEffects_of_read (memRead16_effects vector _)) h2
  exact K.own (t := takeException ret b vector s) rfl h3

theorem keeps_finish (K : Keeps P) {c : Nat} {u t : State} (h : finish c u = .next t) (hu : P u) : P t := by
  rw [← outcome_next_inj h]
  exact K.own (s := u) rfl hu

theorem keeps_storeValue (K : Keeps P) {v : Byte} {o : Operand} {c : Nat} {s t : State} (h : storeValue v o c s = .next t)
    (hs : P s) : P t := by
  refine keeps_finish K h ?_
  rw [resolve_state]
  exact K.write _ _ _ hs

theorem keeps_modifyMemory (K : Keeps P) {f : Byte → Flags → Byte × Flags} {o : Operand} {c : Nat} {s t : State}
    (h : modifyMemory f o c s = .next t) (hs : P s) : P t := by
  refine keeps_finish K h ?_
  simp only [resolve_state]
  have h1 := K.own (ownEffects_of_read (memRead_effects (resolve o s).ea s)) hs
  have h2 := K.write (resolve o s).ea (f (memRead (resolve o s).ea s).1 s.p).1 _ h1
  exact K.own (s := memWrite (resolve o s).ea (f (memRead (resolve o s).ea s).1 s.p).1 (memRead (resolve o s).ea s).2) rfl h2

/-- Every instruction keeps it. -/
theorem keeps_exec (K : Keeps P) (i : Instr) (s t : State) (h : exec i s = .next t) (hs : P s) : P t := by
  by_cases hi : storesToMemory i = false
  · exact K.own (ownEffects_of_register (exec_register_effects i s t hi h)) hs
  · cases i with
    | brk => exact keeps_finish K h (keeps_takeException K _ _ _ _ hs)
    | oraIndx b1 => exact absurd rfl hi
    | nopStarImp op => exact absurd rfl hi
    | nopStarIndx op b1 => exact absurd rfl hi
    | nopStarZp op b1 => exact absurd rfl hi
    | oraZp b1 => exact absurd rfl hi
    | aslZp b1 => exact keeps_modifyMemory K h hs
    | php => exact keeps_finish K h (keeps_push K _ _ hs)
    | oraImm b1 => exact absurd rfl hi
    | aslAcc => exact absurd rfl hi
    | nopStarImm op b1 => exact absurd rfl hi
    | nopStarAbs op w => exact absurd rfl hi
    | oraAbs w => exact absurd rfl hi
    | aslAbs w => exact keeps_modifyMemory K h hs
    | bpl b1 => exact absurd rfl hi
    | oraIndy b1 => exact absurd rfl hi
    | nopStarIndy op b1 => exact absurd rfl hi
    | nopStarZpx op b1 => exact absurd rfl hi
    | oraZpx b1 => exact absurd rfl hi
    | aslZpx b1 => exact keeps_modifyMemory K h hs
    | clc => exact absurd rfl hi
    | oraAbsy w => exact absurd rfl hi
    | nopStarAbsy op w => exact absurd rfl hi
    | nopStarAbsx op w => exact absurd rfl hi
    | oraAbsx w => exact absurd rfl hi
    | aslAbsx w => exact keeps_modifyMemory K h hs
    | jsr w => exact keeps_finish K h (K.own (s := push16 (s.pc - 1) s) rfl (keeps_push16 K _ _ hs))
    | andIndx b1 => exact absurd rfl hi
    | bitZp b1 => exact absurd rfl hi
    | andZp b1 => exact absurd rfl hi
    | rolZp b1 => exact keeps_modifyMemory K h hs
    | plp => exact absurd rfl hi
    | andImm b1 => exact absurd rfl hi
    | rolAcc => exact absurd rfl hi
    | bitAbs w => exact absurd rfl hi
    | andAbs w => exact absurd rfl hi
    | rolAbs w => exact keeps_modifyMemory K h hs
    | bmi b1 => exact absurd rfl hi
    | andIndy b1 => exact absurd rfl hi
    | andZpx b1 => exact absurd rfl hi
    | rolZpx b1 => exact keeps_modifyMemory K h hs
    | sec => exact absurd rfl hi
    | andAbsy w => exact absurd rfl hi
    | andAbsx w => exact absurd rfl hi
    | rolAbsx w => exact keeps_modifyMemory K h hs
    | rti => exact absurd rfl hi
    | eorIndx b1 => exact absurd rfl hi
    | eorZp b1 => exact absurd rfl hi
    | lsrZp b1 => exact keeps_modifyMemory K h hs
    | pha => exact keeps_finish K h (keeps_push K _ _ hs)
    | eorImm b1 => exact absurd rfl hi
    | lsrAcc => exact absurd rfl hi
    | jmpAbs w => exact absurd rfl hi
    | eorAbs w => exact absurd rfl hi
    | lsrAbs w => exact keeps_modifyMemory K h hs
    | bvc b1 => exact absurd rfl hi
    | eorIndy b1 => exact absurd rfl hi
    | eorZpx b1 => exact absurd rfl hi
    | lsrZpx b1 => exact keeps_modifyMemory K h hs
    | cli => exact absurd rfl hi
    | eorAbsy w => exact absurd rfl hi
    | eorAbsx w => exact absurd rfl hi
    | lsrAbsx w => exact keeps_modifyMemory K h hs
    | rts => exact absurd rfl hi
    | adcIndx b1 => exact absurd rfl hi
    | adcZp b1 => exact absurd rfl hi
    | rorZp b1 => exact keeps_modifyMemory K h hs
    | pla => exact absurd rfl hi
    | adcImm b1 => exact absurd rfl hi
    | rorAcc => exact absurd rfl hi
    | jmpInd w => exact absurd rfl hi
    | adcAbs w => exact absurd rfl hi
    | rorAbs w => exact keeps_modifyMemory K h hs
    | bvs b1 => exact absurd rfl hi
    | adcIndy b1 => exact absurd rfl hi
    | adcZpx b1 => exact absurd rfl hi
    | rorZpx b1 => exact keeps_modifyMemory K h hs
    | sei => exact absurd rfl hi
    | adcAbsy w => exact absurd rfl hi
    | adcAbsx w => exact absurd rfl hi
    | rorAbsx w => exact keeps_modifyMemory K h hs
    | staIndx b1 => exact keeps_storeValue K h hs
    | styZp b1 => exact keeps_storeValue K h hs
    | staZp b1 => exact keeps_storeValue K h hs
    | stxZp b1 => exact keeps_storeValue K h hs
    | dey => exact absurd rfl hi
    | txa => exact absurd rfl hi
    | styAbs w => exact keeps_storeValue K h hs
    | staAbs w => exact keeps_storeValue K h hs
    | stxAbs w => exact keeps_storeValue K h hs
    | bcc b1 => exact absurd rfl hi
    | staIndy b1 => exact keeps_storeValue K h hs
    | styZpx b1 => exact keeps_storeValue K h hs
    | staZpx b1 => exact keeps_storeValue K h hs
    | stxZpy b1 => exact keeps_storeValue K h hs
    | nopStarZpy op b1 => exact absurd rfl hi
    | tya => exact absurd rfl hi
    | staAbsy w => exact keeps_storeValue K h hs
    | txs => exact absurd rfl hi
    | staAbsx w => exact keeps_storeValue K h hs
    | ldyImm b1 => exact absurd rfl hi
    | ldaIndx b1 => exact absurd rfl hi
    | ldxImm b1 => exact absurd rfl hi
    | ldyZp b1 => exact absurd rfl hi
    | ldaZp b1 => exact absurd rfl hi
    | ldxZp b1 => exact absurd rfl hi
    | tay => exact absurd rfl hi
    | ldaImm b1 => exact absurd rfl hi
    | tax => exact absurd rfl hi
    | ldyAbs w => exact absurd rfl hi
    | ldaAbs w => exact absurd rfl hi
    | ldxAbs w => exact absurd rfl hi
    | bcs b1 => exact absurd rfl hi
    | ldaIndy b1 => exact absurd rfl hi
    | ldyZpx b1 => exact absurd rfl hi
    | ldaZpx b1 => exact absurd rfl hi
    | ldxZpy b1 => exact absurd rfl hi
    | clv => exact absurd rfl hi
    | ldaAbsy w => exact absurd rfl hi
    | tsx => exact absurd rfl hi
    | ldyAbsx w => exact absurd rfl hi
    | ldaAbsx w => exact absurd rfl hi
    | ldxAbsy w => exact absurd rfl hi
    | cpyImm b1 => exact absurd rfl hi
    | cmpIndx b1 => exact absurd rfl hi
    | cpyZp b1 => exact absurd rfl hi
    | cmpZp b1 => exact absurd rfl hi
    | decZp b1 => exact keeps_modifyMemory K h hs
    | iny => exact absurd rfl hi
    | cmpImm b1 => exact absurd rfl hi
    | dex => exact absurd rfl hi
    | cpyAbs w => exact absurd rfl hi
    | cmpAbs w => exact absurd rfl hi
    | decAbs w => exact keeps_modifyMemory K h hs
    | bne b1 => exact absurd rfl hi
    | cmpIndy b1 => exact absurd rfl hi
    | cmpZpx b1 => exact absurd rfl hi
    | decZpx b1 => exact keeps_modifyMemory K h hs
    | cld => exact absurd rfl hi
    | cmpAbsy w => exact absurd rfl hi
    | cmpAbsx w => exact absurd rfl hi
    | decAbsx w => exact keeps_modifyMemory K h hs
    | cpxImm b1 => exact absurd rfl hi
    | sbcIndx b1 => exact absurd rfl hi
    | cpxZp b1 => exact absurd rfl hi
    | sbcZp b1 => exact absurd rfl hi
    | incZp b1 => exact keeps_modifyMemory K h hs
    | inx => exact absurd rfl hi
    | sbcImm b1 => exact absurd rfl hi
    | nop => exact absurd rfl hi
    | cpxAbs w => exact absurd rfl hi
    | sbcAbs w => exact absurd rfl hi
    | incAbs w => exact keeps_modifyMemory K h hs
    | beq b1 => exact absurd rfl hi
    | sbcIndy b1 => exact absurd rfl hi
    | sbcZpx b1 => exact absurd rfl hi
    | incZpx b1 => exact keeps_modifyMemory K h hs
    | sed => exact absurd rfl hi
    | sbcAbsy w => exact absurd rfl hi
    | sbcAbsx w => exact absurd rfl hi
    | incAbsx w => exact keeps_modifyMemory K h hs

theorem keeps_instructionStep (K : Keeps P) (s t : State) (h : instructionStep s = .next t) (hs : P s) : P t :=
  keeps_exec K _ _ _ h (K.own (ownEffects_of_register (fetch_effects s)) hs)

/-- Every CPU step keeps it. -/
theorem keeps_emulate (K : Keeps P) (s t : State) (h : emulate s = .next t) (hs : P s) : P t := by
  have entry : ∀ v u, P u → P (interruptEntry v u) := fun v u hu =>
    K.own (s := takeException u.pc false v u) rfl (keeps_takeException K _ _ _ _ hu)
  unfold emulate at h
  split at h
  · rw [← outcome_next_inj h]
    exact K.own (s := s) rfl hs
  · split at h
    · rw [← outcome_next_inj h]
      exact K.own (s := performReset s) rfl (K.reset s hs)
    · rw [← outcome_next_inj h]
      exact entry _ _ (K.own (s := s) rfl hs)
    · rw [← outcome_next_inj h]
      exact entry _ _ (K.own (s := s) rfl hs)
    · refine keeps_instructionStep K _ _ h ?_
      unfold maskIrq
      split
      · exact hs
      · exact K.own (s := s) rfl hs
    · exact keeps_instructionStep K _ _ h hs

theorem keeps_runDots (K : Keeps P) (n : Nat) (s : State) (hs : P s) : P (runDots n s) := by
  induction n generalizing s with
  | zero => exact hs
  | succ n ih =>
    unfold runDots
    dsimp only
    have h := K.dot s hs
    split
    · exact K.own (s := (ppuDot s).2) rfl h
    · split
      · exact K.own (s := (ppuDot s).2) rfl h
      · exact ih _ h

/-- Every step of the machine keeps it. -/
theorem keeps_step (K : Keeps P) (s t : State) (h : step s = .next t) (hs : P s) : P t := by
  obtain ⟨_, rfl⟩ | ⟨_, u, hu, rfl⟩ := step_cases h
  · exact keeps_runDots K _ _ (K.own (s := s) rfl hs)
  · have hb : P (if s.inFrame then s else beginFrame s) := by
      split
      · exact hs
      · exact K.own (s := { s with ppu := s.ppu.startFrame }) rfl (K.start s hs)
    have he := keeps_emulate K _ u hu hb
    have ha := K.own (ownEffects_of_apu (clockFrameCounter_effects u.stepCycles u)) he
    exact keeps_runDots K (3 * (clockFrameCounter u.stepCycles u).stepCycles) _ ha

/-- The number of a position in the frame. -/
def rasterNumber (s : State) : Nat := s.ppu.scanline * 341 + s.ppu.curX

/-- One dot that does not end the frame, without the odd-frame skip: the next position, or the start of the frame with the frame
end requested after the last one (50_ppu R303, R305, R306). -/
theorem ppuDot_rasterNumber (s : State) (hs : s.cfg.oddFrameSkip = false) (hx : s.ppu.curX ≤ 340)
    (hl : s.ppu.scanline < s.cfg.scanlinesPerFrame) (h : s.ppu.requestEndFrame = true → 2 ≤ s.ppu.nmiCounter) :
    let t := (ppuDot s).2
    (ppuDot s).1 = false ∧ t.ppu.curX ≤ 340 ∧ t.ppu.scanline < s.cfg.scanlinesPerFrame ∧
    (rasterNumber s + 1 < s.cfg.scanlinesPerFrame * 341 →
      rasterNumber t = rasterNumber s + 1 ∧ t.ppu.requestEndFrame = s.ppu.requestEndFrame ∧
      t.ppu.nmiCounter = if s.ppu.requestEndFrame then s.ppu.nmiCounter - 1 else s.ppu.nmiCounter) ∧
    (rasterNumber s + 1 = s.cfg.scanlinesPerFrame * 341 →
      rasterNumber t = 0 ∧ t.ppu.requestEndFrame = true ∧ t.ppu.nmiCounter = s.cfg.nmiDelayDots) := by
  dsimp only
  rw [ppuDot_goes s h]
  obtain ⟨f1, f2, f3, f4, _⟩ := countedPpu_fields s.ppu
  unfold advanceDot rasterNumber
  dsimp only
  rw [f2]
  by_cases c : s.ppu.curX + 1 = 341
  · rw [if_pos c]
    by_cases l : s.ppu.scanline + 1 = s.cfg.scanlinesPerFrame
    · rw [endScanline_last _ (by simpa [f1] using l)]
      dsimp only [enterVBlank]
      exact ⟨rfl, by omega, by omega, fun h => absurd h (by omega), fun _ => ⟨rfl, rfl, rfl⟩⟩
    · have e := endScanline_position { s with ppu := { countedPpu s.ppu with curX := 0 } } (by simpa [f1] using l)
      dsimp only at e
      obtain ⟨e1, e2, e3, e4, _⟩ := e
      have e1 := e1.trans (congrArg (· + 1) f1)
      have e2 : (endScanline { s with ppu := { countedPpu s.ppu with curX := 0 } }).ppu.curX = 0 := by
        rcases e2 with e2 | ⟨⟨_, e2, _⟩, _⟩
        · exact e2
        · rw [hs] at e2
          cases e2
      exact ⟨rfl, by omega, by omega,
        fun _ => ⟨by erw [e1, e2]; omega, by rw [e3, f3], by rw [e4, f4]⟩, fun h => by omega⟩
  · rw [if_neg c]
    dsimp only
    exact ⟨rfl, by omega, by omega, fun h => ⟨by omega, f3, f4⟩, fun h => by omega⟩

end Sys2Proof.Machine
end

