-- ==== Sys2Proof/Laws/PerInstr.lean ====
section
/-! SUPPORT. Families of statements about every instruction as syntax, one lemma per constructor of `Instr`. -/

namespace Sys2Proof.Laws.EncodedLength

/-- The encoding of a well-formed instruction has the length its addressing mode gives (30_encoding R100, R103). -/
def Statement (i : Instr) : Prop := i.wellFormed = true → (encode i).length = i.length

theorem of_mode {op : Byte} {m : Mode} {n : Nat} (h : isUndocumented op m = true) (hn : m.length = n) :
    n = (opRow op).mode.length := by
  unfold isUndocumented at h
  simp only [Bool.and_eq_true, beq_iff_eq] at h
  rw [h.2, hn]

theorem brk : Statement .brk := fun _ => (by decide : 1 = (opRow 0x00#8).mode.length)
theorem oraIndx (b1 : Byte) : Statement (.oraIndx b1) := fun _ => (by decide : 2 = (opRow 0x01#8).mode.length)
theorem nopStarImp (op : Byte) : Statement (.nopStarImp op) := fun h => of_mode h rfl
theorem nopStarIndx (op : Byte) (b1 : Byte) : Statement (.nopStarIndx op b1) := fun h => of_mode h rfl
theorem nopStarZp (op : Byte) (b1 : Byte) : Statement (.nopStarZp op b1) := fun h => of_mode h rfl
theorem oraZp (b1 : Byte) : Statement (.oraZp b1) := fun _ => (by decide : 2 = (opRow 0x05#8).mode.length)
theorem aslZp (b1 : Byte) : Statement (.aslZp b1) := fun _ => (by decide : 2 = (opRow 0x06#8).mode.length)
theorem php : Statement .php := fun _ => (by decide : 1 = (opRow 0x08#8).mode.length)
theorem oraImm (b1 : Byte) : Statement (.oraImm b1) := fun _ => (by decide : 2 = (opRow 0x09#8).mode.length)
theorem aslAcc : Statement .aslAcc := fun _ => (by decide : 1 = (opRow 0x0A#8).mode.length)
theorem nopStarImm (op : Byte) (b1 : Byte) : Statement (.nopStarImm op b1) := fun h => of_mode h rfl
theorem nopStarAbs (op : Byte) (w : Word) : Statement (.nopStarAbs op w) := fun h => of_mode h rfl
theorem oraAbs (w : Word) : Statement (.oraAbs w) := fun _ => (by decide : 3 = (opRow 0x0D#8).mode.length)
theorem aslAbs (w : Word) : Statement (.aslAbs w) := fun _ => (by decide : 3 = (opRow 0x0E#8).mode.length)
theorem bpl (b1 : Byte) : Statement (.bpl b1) := fun _ => (by decide : 2 = (opRow 0x10#8).mode.length)
theorem oraIndy (b1 : Byte) : Statement (.oraIndy b1) := fun _ => (by decide : 2 = (opRow 0x11#8).mode.length)
theorem nopStarIndy (op : Byte) (b1 : Byte) : Statement (.nopStarIndy op b1) := fun h => of_mode h rfl
theorem nopStarZpx (op : Byte) (b1 : Byte) : Statement (.nopStarZpx op b1) := fun h => of_mode h rfl
theorem oraZpx (b1 : Byte) : Statement (.oraZpx b1) := fun _ => (by decide : 2 = (opRow 0x15#8).mode.length)
theorem aslZpx (b1 : Byte) : Statement (.aslZpx b1) := fun _ => (by decide : 2 = (opRow 0x16#8).mode.length)
theorem clc : Statement .clc := fun _ => (by decide : 1 = (opRow 0x18#8).mode.length)
theorem oraAbsy (w : Word) : Statement (.oraAbsy w) := fun _ => (by decide : 3 = (opRow 0x19#8).mode.length)
theorem nopStarAbsy (op : Byte) (w : Word) : Statement (.nopStarAbsy op w) := fun h => of_mode h rfl
theorem nopStarAbsx (op : Byte) (w : Word) : Statement (.nopStarAbsx op w) := fun h => of_mode h rfl
theorem oraAbsx (w : Word) : Statement (.oraAbsx w) := fun _ => (by decide : 3 = (opRow 0x1D#8).mode.length)
theorem aslAbsx (w : Word) : Statement (.aslAbsx w) := fun _ => (by decide : 3 = (opRow 0x1E#8).mode.length)
theorem jsr (w : Word) : Statement (.jsr w) := fun _ => (by decide : 3 = (opRow 0x20#8).mode.length)
theorem andIndx (b1 : Byte) : Statement (.andIndx b1) := fun _ => (by decide : 2 = (opRow 0x21#8).mode.length)
theorem bitZp (b1 : Byte) : Statement (.bitZp b1) := fun _ => (by decide : 2 = (opRow 0x24#8).mode.length)
theorem andZp (b1 : Byte) : Statement (.andZp b1) := fun _ => (by decide : 2 = (opRow 0x25#8).mode.length)
theorem rolZp (b1 : Byte) : Statement (.rolZp b1) := fun _ => (by decide : 2 = (opRow 0x26#8).mode.length)
theorem plp : Statement .plp := fun _ => (by decide : 1 = (opRow 0x28#8).mode.length)
theorem andImm (b1 : Byte) : Statement (.andImm b1) := fun _ => (by decide : 2 = (opRow 0x29#8).mode.length)
theorem rolAcc : Statement .rolAcc := fun _ => (by decide : 1 = (opRow 0x2A#8).mode.length)
theorem bitAbs (w : Word) : Statement (.bitAbs w) := fun _ => (by decide : 3 = (opRow 0x2C#8).mode.length)
theorem andAbs (w : Word) : Statement (.andAbs w) := fun _ => (by decide : 3 = (opRow 0x2D#8).mode.length)
theorem rolAbs (w : Word) : Statement (.rolAbs w) := fun _ => (by decide : 3 = (opRow 0x2E#8).mode.length)
theorem bmi (b1 : Byte) : Statement (.bmi b1) := fun _ => (by decide : 2 = (opRow 0x30#8).mode.length)
theorem andIndy (b1 : Byte) : Statement (.andIndy b1) := fun _ => (by decide : 2 = (opRow 0x31#8).mode.length)
theorem andZpx (b1 : Byte) : Statement (.andZpx b1) := fun _ => (by decide : 2 = (opRow 0x35#8).mode.length)
theorem rolZpx (b1 : Byte) : Statement (.rolZpx b1) := fun _ => (by decide : 2 = (opRow 0x36#8).mode.length)
theorem sec : Statement .sec := fun _ => (by decide : 1 = (opRow 0x38#8).mode.length)
theorem andAbsy (w : Word) : Statement (.andAbsy w) := fun _ => (by decide : 3 = (opRow 0x39#8).mode.length)
theorem andAbsx (w : Word) : Statement (.andAbsx w) := fun _ => (by decide : 3 = (opRow 0x3D#8).mode.length)
theorem rolAbsx (w : Word) : Statement (.rolAbsx w) := fun _ => (by decide : 3 = (opRow 0x3E#8).mode.length)
theorem rti : Statement .rti := fun _ => (by decide : 1 = (opRow 0x40#8).mode.length)
theorem eorIndx (b1 : Byte) : Statement (.eorIndx b1) := fun _ => (by decide : 2 = (opRow 0x41#8).mode.length)
theorem eorZp (b1 : Byte) : Statement (.eorZp b1) := fun _ => (by decide : 2 = (opRow 0x45#8).mode.length)
theorem lsrZp (b1 : Byte) : Statement (.lsrZp b1) := fun _ => (by decide : 2 = (opRow 0x46#8).mode.length)
theorem pha : Statement .pha := fun _ => (by decide : 1 = (opRow 0x48#8).mode.length)
theorem eorImm (b1 : Byte) : Statement (.eorImm b1) := fun _ => (by decide : 2 = (opRow 0x49#8).mode.length)
theorem lsrAcc : Statement .lsrAcc := fun _ => (by decide : 1 = (opRow 0x4A#8).mode.length)
theorem jmpAbs (w : Word) : Statement (.jmpAbs w) := fun _ => (by decide : 3 = (opRow 0x4C#8).mode.length)
theorem eorAbs (w : Word) : Statement (.eorAbs w) := fun _ => (by decide : 3 = (opRow 0x4D#8).mode.length)
theorem lsrAbs (w : Word) : Statement (.lsrAbs w) := fun _ => (by decide : 3 = (opRow 0x4E#8).mode.length)
theorem bvc (b1 : Byte) : Statement (.bvc b1) := fun _ => (by decide : 2 = (opRow 0x50#8).mode.length)
theorem eorIndy (b1 : Byte) : Statement (.eorIndy b1) := fun _ => (by decide : 2 = (opRow 0x51#8).mode.length)
theorem eorZpx (b1 : Byte) : Statement (.eorZpx b1) := fun _ => (by decide : 2 = (opRow 0x55#8).mode.length)
theorem lsrZpx (b1 : Byte) : Statement (.lsrZpx b1) := fun _ => (by decide : 2 = (opRow 0x56#8).mode.length)
theorem cli : Statement .cli := fun _ => (by decide : 1 = (opRow 0x58#8).mode.length)
theorem eorAbsy (w : Word) : Statement (.eorAbsy w) := fun _ => (by decide : 3 = (opRow 0x59#8).mode.length)
theorem eorAbsx (w : Word) : Statement (.eorAbsx w) := fun _ => (by decide : 3 = (opRow 0x5D#8).mode.length)
theorem lsrAbsx (w : Word) : Statement (.lsrAbsx w) := fun _ => (by decide : 3 = (opRow 0x5E#8).mode.length)
theorem rts : Statement .rts := fun _ => (by decide : 1 = (opRow 0x60#8).mode.length)
theorem adcIndx (b1 : Byte) : Statement (.adcIndx b1) := fun _ => (by decide : 2 = (opRow 0x61#8).mode.length)
theorem adcZp (b1 : Byte) : Statement (.adcZp b1) := fun _ => (by decide : 2 = (opRow 0x65#8).mode.length)
theorem rorZp (b1 : Byte) : Statement (.rorZp b1) := fun _ => (by decide : 2 = (opRow 0x66#8).mode.length)
theorem pla : Statement .pla := fun _ => (by decide : 1 = (opRow 0x68#8).mode.length)
theorem adcImm (b1 : Byte) : Statement (.adcImm b1) := fun _ => (by decide : 2 = (opRow 0x69#8).mode.length)
theorem rorAcc : Statement .rorAcc := fun _ => (by decide : 1 = (opRow 0x6A#8).mode.length)
theorem jmpInd (w : Word) : Statement (.jmpInd w) := fun _ => (by decide : 3 = (opRow 0x6C#8).mode.length)
theorem adcAbs (w : Word) : Statement (.adcAbs w) := fun _ => (by decide : 3 = (opRow 0x6D#8).mode.length)
theorem rorAbs (w : Word) : Statement (.rorAbs w) := fun _ => (by decide : 3 = (opRow 0x6E#8).mode.length)
theorem bvs (b1 : Byte) : Statement (.bvs b1) := fun _ => (by decide : 2 = (opRow 0x70#8).mode.length)
theorem adcIndy (b1 : Byte) : Statement (.adcIndy b1) := fun _ => (by decide : 2 = (opRow 0x71#8).mode.length)
theorem adcZpx (b1 : Byte) : Statement (.adcZpx b1) := fun _ => (by decide : 2 = (opRow 0x75#8).mode.length)
theorem rorZpx (b1 : Byte) : Statement (.rorZpx b1) := fun _ => (by decide : 2 = (opRow 0x76#8).mode.length)
theorem sei : Statement .sei := fun _ => (by decide : 1 = (opRow 0x78#8).mode.length)
theorem adcAbsy (w : Word) : Statement (.adcAbsy w) := fun _ => (by decide : 3 = (opRow 0x79#8).mode.length)
theorem adcAbsx (w : Word) : Statement (.adcAbsx w) := fun _ => (by decide : 3 = (opRow 0x7D#8).mode.length)
theorem rorAbsx (w : Word) : Statement (.rorAbsx w) := fun _ => (by decide : 3 = (opRow 0x7E#8).mode.length)
theorem staIndx (b1 : Byte) : Statement (.staIndx b1) := fun _ => (by decide : 2 = (opRow 0x81#8).mode.length)
theorem styZp (b1 : Byte) : Statement (.styZp b1) := fun _ => (by decide : 2 = (opRow 0x84#8).mode.length)
theorem staZp (b1 : Byte) : Statement (.staZp b1) := fun _ => (by decide : 2 = (opRow 0x85#8).mode.length)
theorem stxZp (b1 : Byte) : Statement (.stxZp b1) := fun _ => (by decide : 2 = (opRow 0x86#8).mode.length)
theorem dey : Statement .dey := fun _ => (by decide : 1 = (opRow 0x88#8).mode.length)
theorem txa : Statement .txa := fun _ => (by decide : 1 = (opRow 0x8A#8).mode.length)
theorem styAbs (w : Word) : Statement (.styAbs w) := fun _ => (by decide : 3 = (opRow 0x8C#8).mode.length)
theorem staAbs (w : Word) : Statement (.staAbs w) := fun _ => (by decide : 3 = (opRow 0x8D#8).mode.length)
theorem stxAbs (w : Word) : Statement (.stxAbs w) := fun _ => (by decide : 3 = (opRow 0x8E#8).mode.length)
theorem bcc (b1 : Byte) : Statement (.bcc b1) := fun _ => (by decide : 2 = (opRow 0x90#8).mode.length)
theorem staIndy (b1 : Byte) : Statement (.staIndy b1) := fun _ => (by decide : 2 = (opRow 0x91#8).mode.length)
theorem styZpx (b1 : Byte) : Statement (.styZpx b1) := fun _ => (by decide : 2 = (opRow 0x94#8).mode.length)
theorem staZpx (b1 : Byte) : Statement (.staZpx b1) := fun _ => (by decide : 2 = (opRow 0x95#8).mode.length)
theorem stxZpy (b1 : Byte) : Statement (.stxZpy b1) := fun _ => (by decide : 2 = (opRow 0x96#8).mode.length)
theorem nopStarZpy (op : Byte) (b1 : Byte) : Statement (.nopStarZpy op b1) := fun h => of_mode h rfl
theorem tya : Statement .tya := fun _ => (by decide : 1 = (opRow 0x98#8).mode.length)
theorem staAbsy (w : Word) : Statement (.staAbsy w) := fun _ => (by decide : 3 = (opRow 0x99#8).mode.length)
theorem txs : Statement .txs := fun _ => (by decide : 1 = (opRow 0x9A#8).mode.length)
theorem staAbsx (w : Word) : Statement (.staAbsx w) := fun _ => (by decide : 3 = (opRow 0x9D#8).mode.length)
theorem ldyImm (b1 : Byte) : Statement (.ldyImm b1) := fun _ => (by decide : 2 = (opRow 0xA0#8).mode.length)
theorem ldaIndx (b1 : Byte) : Statement (.ldaIndx b1) := fun _ => (by decide : 2 = (opRow 0xA1#8).mode.length)
theorem ldxImm (b1 : Byte) : Statement (.ldxImm b1) := fun _ => (by decide : 2 = (opRow 0xA2#8).mode.length)
theorem ldyZp (b1 : Byte) : Statement (.ldyZp b1) := fun _ => (by decide : 2 = (opRow 0xA4#8).mode.length)
theorem ldaZp (b1 : Byte) : Statement (.ldaZp b1) := fun _ => (by decide : 2 = (opRow 0xA5#8).mode.length)
theorem ldxZp (b1 : Byte) : Statement (.ldxZp b1) := fun _ => (by decide : 2 = (opRow 0xA6#8).mode.length)
theorem tay : Statement .tay := fun _ => (by decide : 1 = (opRow 0xA8#8).mode.length)
theorem ldaImm (b1 : Byte) : Statement (.ldaImm b1) := fun _ => (by decide : 2 = (opRow 0xA9#8).mode.length)
theorem tax : Statement .tax := fun _ => (by decide : 1 = (opRow 0xAA#8).mode.length)
theorem ldyAbs (w : Word) : Statement (.ldyAbs w) := fun _ => (by decide : 3 = (opRow 0xAC#8).mode.length)
theorem ldaAbs (w : Word) : Statement (.ldaAbs w) := fun _ => (by decide : 3 = (opRow 0xAD#8).mode.length)
theorem ldxAbs (w : Word) : Statement (.ldxAbs w) := fun _ => (by decide : 3 = (opRow 0xAE#8).mode.length)
theorem bcs (b1 : Byte) : Statement (.bcs b1) := fun _ => (by decide : 2 = (opRow 0xB0#8).mode.length)
theorem ldaIndy (b1 : Byte) : Statement (.ldaIndy b1) := fun _ => (by decide : 2 = (opRow 0xB1#8).mode.length)
theorem ldyZpx (b1 : Byte) : Statement (.ldyZpx b1) := fun _ => (by decide : 2 = (opRow 0xB4#8).mode.length)
theorem ldaZpx (b1 : Byte) : Statement (.ldaZpx b1) := fun _ => (by decide : 2 = (opRow 0xB5#8).mode.length)
theorem ldxZpy (b1 : Byte) : Statement (.ldxZpy b1) := fun _ => (by decide : 2 = (opRow 0xB6#8).mode.length)
theorem clv : Statement .clv := fun _ => (by decide : 1 = (opRow 0xB8#8).mode.length)
theorem ldaAbsy (w : Word) : Statement (.ldaAbsy w) := fun _ => (by decide : 3 = (opRow 0xB9#8).mode.length)
theorem tsx : Statement .tsx := fun _ => (by decide : 1 = (opRow 0xBA#8).mode.length)
theorem ldyAbsx (w : Word) : Statement (.ldyAbsx w) := fun _ => (by decide : 3 = (opRow 0xBC#8).mode.length)
theorem ldaAbsx (w : Word) : Statement (.ldaAbsx w) := fun _ => (by decide : 3 = (opRow 0xBD#8).mode.length)
theorem ldxAbsy (w : Word) : Statement (.ldxAbsy w) := fun _ => (by decide : 3 = (opRow 0xBE#8).mode.length)
theorem cpyImm (b1 : Byte) : Statement (.cpyImm b1) := fun _ => (by decide : 2 = (opRow 0xC0#8).mode.length)
theorem cmpIndx (b1 : Byte) : Statement (.cmpIndx b1) := fun _ => (by decide : 2 = (opRow 0xC1#8).mode.length)
theorem cpyZp (b1 : Byte) : Statement (.cpyZp b1) := fun _ => (by decide : 2 = (opRow 0xC4#8).mode.length)
theorem cmpZp (b1 : Byte) : Statement (.cmpZp b1) := fun _ => (by decide : 2 = (opRow 0xC5#8).mode.length)
theorem decZp (b1 : Byte) : Statement (.decZp b1) := fun _ => (by decide : 2 = (opRow 0xC6#8).mode.length)
theorem iny : Statement .iny := fun _ => (by decide : 1 = (opRow 0xC8#8).mode.length)
theorem cmpImm (b1 : Byte) : Statement (.cmpImm b1) := fun _ => (by decide : 2 = (opRow 0xC9#8).mode.length)
theorem dex : Statement .dex := fun _ => (by decide : 1 = (opRow 0xCA#8).mode.length)
theorem cpyAbs (w : Word) : Statement (.cpyAbs w) := fun _ => (by decide : 3 = (opRow 0xCC#8).mode.length)
theorem cmpAbs (w : Word) : Statement (.cmpAbs w) := fun _ => (by decide : 3 = (opRow 0xCD#8).mode.length)
theorem decAbs (w : Word) : Statement (.decAbs w) := fun _ => (by decide : 3 = (opRow 0xCE#8).mode.length)
theorem bne (b1 : Byte) : Statement (.bne b1) := fun _ => (by decide : 2 = (opRow 0xD0#8).mode.length)
theorem cmpIndy (b1 : Byte) : Statement (.cmpIndy b1) := fun _ => (by decide : 2 = (opRow 0xD1#8).mode.length)
theorem cmpZpx (b1 : Byte) : Statement (.cmpZpx b1) := fun _ => (by decide : 2 = (opRow 0xD5#8).mode.length)
theorem decZpx (b1 : Byte) : Statement (.decZpx b1) := fun _ => (by decide : 2 = (opRow 0xD6#8).mode.length)
theorem cld : Statement .cld := fun _ => (by decide : 1 = (opRow 0xD8#8).mode.length)
theorem cmpAbsy (w : Word) : Statement (.cmpAbsy w) := fun _ => (by decide : 3 = (opRow 0xD9#8).mode.length)
theorem cmpAbsx (w : Word) : Statement (.cmpAbsx w) := fun _ => (by decide : 3 = (opRow 0xDD#8).mode.length)
theorem decAbsx (w : Word) : Statement (.decAbsx w) := fun _ => (by decide : 3 = (opRow 0xDE#8).mode.length)
theorem cpxImm (b1 : Byte) : Statement (.cpxImm b1) := fun _ => (by decide : 2 = (opRow 0xE0#8).mode.length)
theorem sbcIndx (b1 : Byte) : Statement (.sbcIndx b1) := fun _ => (by decide : 2 = (opRow 0xE1#8).mode.length)
theorem cpxZp (b1 : Byte) : Statement (.cpxZp b1) := fun _ => (by decide : 2 = (opRow 0xE4#8).mode.length)
theorem sbcZp (b1 : Byte) : Statement (.sbcZp b1) := fun _ => (by decide : 2 = (opRow 0xE5#8).mode.length)
theorem incZp (b1 : Byte) : Statement (.incZp b1) := fun _ => (by decide : 2 = (opRow 0xE6#8).mode.length)
theorem inx : Statement .inx := fun _ => (by decide : 1 = (opRow 0xE8#8).mode.length)
theorem sbcImm (b1 : Byte) : Statement (.sbcImm b1) := fun _ => (by decide : 2 = (opRow 0xE9#8).mode.length)
theorem nop : Statement .nop := fun _ => (by decide : 1 = (opRow 0xEA#8).mode.length)
theorem cpxAbs (w : Word) : Statement (.cpxAbs w) := fun _ => (by decide : 3 = (opRow 0xEC#8).mode.length)
theorem sbcAbs (w : Word) : Statement (.sbcAbs w) := fun _ => (by decide : 3 = (opRow 0xED#8).mode.length)
theorem incAbs (w : Word) : Statement (.incAbs w) := fun _ => (by decide : 3 = (opRow 0xEE#8).mode.length)
theorem beq (b1 : Byte) : Statement (.beq b1) := fun _ => (by decide : 2 = (opRow 0xF0#8).mode.length)
theorem sbcIndy (b1 : Byte) : Statement (.sbcIndy b1) := fun _ => (by decide : 2 = (opRow 0xF1#8).mode.length)
theorem sbcZpx (b1 : Byte) : Statement (.sbcZpx b1) := fun _ => (by decide : 2 = (opRow 0xF5#8).mode.length)
theorem incZpx (b1 : Byte) : Statement (.incZpx b1) := fun _ => (by decide : 2 = (opRow 0xF6#8).mode.length)
theorem sed : Statement .sed := fun _ => (by decide : 1 = (opRow 0xF8#8).mode.length)
theorem sbcAbsy (w : Word) : Statement (.sbcAbsy w) := fun _ => (by decide : 3 = (opRow 0xF9#8).mode.length)
theorem sbcAbsx (w : Word) : Statement (.sbcAbsx w) := fun _ => (by decide : 3 = (opRow 0xFD#8).mode.length)
theorem incAbsx (w : Word) : Statement (.incAbsx w) := fun _ => (by decide : 3 = (opRow 0xFE#8).mode.length)

end Sys2Proof.Laws.EncodedLength
end

