-- ==== Sys2Proof/Laws/Values.lean ====
section
/-! SUPPORT. The flag computations in numbers: each value function of Machine/Flags.lean is the result and the flags that the
terms of Safety.lean give. -/

namespace Sys2Proof.Machine

/-- N and Z in numbers. -/
theorem setNZ_eq_withNZ (p : Flags) (v : Byte) : p.setNZ v = withNZ p v := by
  have h1 : v.msb = decide (128 ≤ v.toNat) := by rw [BitVec.msb_eq_decide]
  have h2 : (v == 0) = decide (v.toNat = 0) := by
    rw [Bool.eq_iff_iff]
    simp [← BitVec.toNat_inj]
  unfold Flags.setNZ withNZ
  rw [h1, h2]

/-- The pushed image of P is the status byte. -/
theorem image_eq_statusByte (p : Flags) (b : Bool) : p.image b = statusByte p b := by
  obtain ⟨n, v, d, i, z, c⟩ := p
  cases n <;> cases v <;> cases d <;> cases i <;> cases z <;> cases c <;> cases b <;> rfl

theorem sum9_toNat (a m : Byte) (c : Bool) : (sum9 a m c).toNat = a.toNat + m.toNat + c.toNat := by
  have := a.isLt
  have := m.isLt
  have := c.toNat_le
  unfold sum9
  simp only [BitVec.toNat_add, BitVec.truncate_eq_setWidth, BitVec.toNat_setWidth, BitVec.toNat_ofBool]
  omega

/-- ADC in numbers. -/
theorem adcValue_eq (a m : Byte) (p : Flags) :
    let r := aluResult .adc a m p.c p.v
    adcValue a m p = (BitVec.ofNat 8 r.1, { withNZ p (BitVec.ofNat 8 r.1) with c := r.2.1, v := r.2.2 }) := by
  have hs := sum9_toNat a m p.c
  have ha := a.isLt
  have hm := m.isLt
  have hc := p.c.toNat_le
  have hr : (sum9 a m p.c).extractLsb' 0 8 = BitVec.ofNat 8 ((a.toNat + m.toNat + p.c.toNat) % 256) := by
    apply BitVec.eq_of_toNat_eq
    simp [hs]
  have hcarry : (sum9 a m p.c).getLsbD 8 = decide (256 ≤ a.toNat + m.toNat + p.c.toNat) := by
    have h : (sum9 a m p.c).getLsbD 8 = (sum9 a m p.c).msb := rfl
    rw [h, BitVec.msb_eq_decide, hs]
  have hv : ∀ r : Byte, r = BitVec.ofNat 8 ((a.toNat + m.toNat + p.c.toNat) % 256) →
      ((a ^^^ r) &&& (m ^^^ r)).msb =
        decide (a.toInt + m.toInt + p.c.toNat < -128 ∨ 127 < a.toInt + m.toInt + p.c.toNat) := by
    intro r hr
    have hrn : r.toNat = (a.toNat + m.toNat + p.c.toNat) % 256 := by rw [hr]; simp
    rw [BitVec.msb_and, BitVec.msb_xor, BitVec.msb_xor, BitVec.msb_eq_decide, BitVec.msb_eq_decide, BitVec.msb_eq_decide, hrn,
      BitVec.toInt_eq_toNat_cond, BitVec.toInt_eq_toNat_cond]
    rw [Bool.eq_iff_iff]
    simp only [Bool.and_eq_true, bne_iff_ne, ne_eq, decide_eq_decide, decide_eq_true_eq]
    split <;> split <;> omega
  intro r
  unfold adcValue
  simp only [hr, hcarry, hv _ rfl, setNZ_eq_withNZ]
  rfl

/-- SBC in numbers. -/
theorem sbcValue_eq (a m : Byte) (p : Flags) :
    let r := aluResult .sbc a m p.c p.v
    sbcValue a m p = (BitVec.ofNat 8 r.1, { withNZ p (BitVec.ofNat 8 r.1) with c := r.2.1, v := r.2.2 }) := by
  have ha := a.isLt
  have hm := m.isLt
  have hc := p.c.toNat_le
  have hn : (m ^^^ 0xFF#8).toNat = 255 - m.toNat := by
    have h : m ^^^ 0xFF#8 = ~~~m := (BitVec.xor_allOnes (x := m))
    rw [h, BitVec.toNat_not]
  have hi : (m ^^^ 0xFF#8).toInt = -m.toInt - 1 := by
    rw [BitVec.toInt_eq_toNat_cond, BitVec.toInt_eq_toNat_cond, hn]
    split <;> split <;> omega
  have e : aluResult .adc a (m ^^^ 0xFF#8) p.c p.v = aluResult .sbc a m p.c p.v := by
    unfold aluResult
    simp only [hn, hi, Prod.mk.injEq]
    refine ⟨by omega, ?_, ?_⟩
    · rw [decide_eq_decide]; omega
    · rw [decide_eq_decide]; omega
  intro r
  unfold sbcValue
  rw [adcValue_eq, e]

theorem andValue_eq (a m : Byte) (p : Flags) :
    let r := aluResult .and a m p.c p.v
    andValue a m p = (BitVec.ofNat 8 r.1, { withNZ p (BitVec.ofNat 8 r.1) with c := r.2.1, v := r.2.2 }) := by
  simp [andValue, aluResult, setNZ_eq_withNZ, withNZ]

theorem oraValue_eq (a m : Byte) (p : Flags) :
    let r := aluResult .ora a m p.c p.v
    oraValue a m p = (BitVec.ofNat 8 r.1, { withNZ p (BitVec.ofNat 8 r.1) with c := r.2.1, v := r.2.2 }) := by
  simp [oraValue, aluResult, setNZ_eq_withNZ, withNZ]

theorem eorValue_eq (a m : Byte) (p : Flags) :
    let r := aluResult .eor a m p.c p.v
    eorValue a m p = (BitVec.ofNat 8 r.1, { withNZ p (BitVec.ofNat 8 r.1) with c := r.2.1, v := r.2.2 }) := by
  simp [eorValue, aluResult, setNZ_eq_withNZ, withNZ]

/-- A compare in numbers. -/
theorem compareFlags_eq (r m : Byte) (p : Flags) :
    compareFlags r m p = { p with
      c := decide (m.toNat ≤ r.toNat), z := decide (r = m), n := decide (128 ≤ (r.toNat + 256 - m.toNat) % 256) } := by
  have := r.isLt
  have := m.isLt
  have h : (r - m).msb = decide (128 ≤ (r.toNat + 256 - m.toNat) % 256) := by
    rw [BitVec.msb_eq_decide, BitVec.toNat_sub, decide_eq_decide]
    simp only [Nat.reducePow, Nat.reduceSub]
    omega
  simp [compareFlags, h]
  rfl

/-- A one-byte operation on values: result and carry of `byteResult`. -/
def ByteValueIs (op : ByteOp) (f : Byte → Flags → Byte × Flags) : Prop :=
  ∀ (b : Byte) (p : Flags),
    let r := byteResult op b.toNat p.c
    f b p = (BitVec.ofNat 8 r.1, { withNZ p (BitVec.ofNat 8 r.1) with c := r.2 })

theorem byteValueIs_of {op : ByteOp} {f : Byte → Flags → Byte × Flags} (g : Byte → Bool → Byte × Bool)
    (hf : ∀ b p, f b p = ((g b p.c).1, { p with c := (g b p.c).2 }.setNZ (g b p.c).1))
    (hg : ∀ b c, g b c = (BitVec.ofNat 8 (byteResult op b.toNat c).1, (byteResult op b.toNat c).2)) : ByteValueIs op f := by
  intro b p r
  rw [hf, hg, setNZ_eq_withNZ]
  rfl

theorem aslValue_eq : ByteValueIs .asl aslValue :=
  byteValueIs_of (fun b _ => (b <<< 1, b.getLsbD 7)) (fun _ _ => rfl) (by decide)

theorem lsrValue_eq : ByteValueIs .lsr lsrValue :=
  byteValueIs_of (fun b _ => (b >>> 1, b.getLsbD 0)) (fun _ _ => rfl) (by decide)

theorem rolValue_eq : ByteValueIs .rol rolValue :=
  byteValueIs_of (fun b c => ((b <<< 1) ||| (BitVec.ofBool c).zeroExtend 8, b.getLsbD 7)) (fun _ _ => rfl) (by decide)

theorem rorValue_eq : ByteValueIs .ror rorValue :=
  byteValueIs_of (fun b c => (((BitVec.ofBool c).zeroExtend 8 <<< 7) ||| (b >>> 1), b.getLsbD 0)) (fun _ _ => rfl)
    (by decide)

theorem incValue_eq : ByteValueIs .inc incValue :=
  byteValueIs_of (fun b c => (b + 1, c)) (fun _ _ => rfl) (by decide)

theorem decValue_eq : ByteValueIs .dec decValue :=
  byteValueIs_of (fun b c => (b - 1, c)) (fun _ _ => rfl) (by decide)

end Sys2Proof.Machine
end

