-- ==== Sys2Proof/Laws/Shapes.lean ====
section
/-! SUPPORT. For each shape of instruction in Machine/Operands.lean, once, the next state it answers, in the terms of
Safety.lean. -/

namespace Sys2Proof.Machine

@[simp] theorem readOperand_p (o : Operand) (s : State) : (readOperand o s).state.p = s.p := by
  rw [readOperand_effects o s]

/-- A form whose rows carry no page-cross penalty reads an operand that never crosses. -/
def NeverCrosses (o : Operand) : Prop := ∀ s, (readOperand o s).crossed = false

theorem total_of_penalty {o : Operand} {pc : Bool} (h : pc = false → NeverCrosses o) (op : Byte) (c : Nat) (s : State) :
    (OperandForm.mk op o c pc).total (readOperand o s).crossed = c + penalty (readOperand o s).crossed := by
  cases pc
  · simp [OperandForm.total, penalty, h rfl s]
  · simp [OperandForm.total, penalty]

/-- What a load answers. -/
theorem loadRegister_eq {put : State → Byte → State} {r : Reg} (hput : ∀ s v, put s v = s.withReg r v) (o : Operand) (c : Nat)
    (s : State) : loadRegister put o c s = .next { (readOperand o s).state.withReg r (readOperand o s).value with
      p := withNZ s.p (readOperand o s).value
      stepCycles := c + penalty (readOperand o s).crossed } := by
  unfold loadRegister
  simp only [hput, finish_eq, State.setNZ, State.setP, State.setCycles, setNZ_eq_withNZ]
  have h := readOperand_p o s
  cases r <;> simp only [State.withReg, h]

/-- What a store answers. -/
theorem storeValue_eq (v : Byte) (o : Operand) (c : Nat) (s : State) :
    storeValue v o c s = .next { memWrite (resolve o s).ea v s with stepCycles := c } := by
  unfold storeValue
  simp only [resolve_state, finish_eq]
  rfl

/-- What an operation on A and an operand answers. -/
theorem accumulate_eq {op : AluOp} {g : Byte → Byte → Flags → Byte × Flags}
    (hg : ∀ a m p, let r := aluResult op a m p.c p.v
      g a m p = (BitVec.ofNat 8 r.1, { withNZ p (BitVec.ofNat 8 r.1) with c := r.2.1, v := r.2.2 }))
    (o : Operand) (c : Nat) (s : State) :
    let r := aluResult op s.a (readOperand o s).value s.p.c s.p.v
    accumulate g o c s = .next { (readOperand o s).state with
      a := BitVec.ofNat 8 r.1
      p := { withNZ s.p (BitVec.ofNat 8 r.1) with c := r.2.1, v := r.2.2 }
      stepCycles := c + penalty (readOperand o s).crossed } := by
  intro r
  unfold accumulate
  simp only [hg, finish_eq, State.setP, State.setCycles, State.setA]
  rfl

/-- What a compare answers. -/
theorem compareWith_eq (reg : Byte) (o : Operand) (c : Nat) (s : State) :
    compareWith reg o c s = .next { (readOperand o s).state with
      p := { s.p with
        c := decide ((readOperand o s).value.toNat ≤ reg.toNat)
        z := decide (reg = (readOperand o s).value)
        n := decide (128 ≤ (reg.toNat + 256 - (readOperand o s).value.toNat) % 256) }
      stepCycles := c + penalty (readOperand o s).crossed } := by
  unfold compareWith
  simp only [compareFlags_eq, finish_eq, State.setP, State.setCycles]

/-- What a bit test answers. -/
theorem bitTest_eq (o : Operand) (c : Nat) (s : State) :
    bitTest o c s = .next { (readOperand o s).state with
      p := { s.p with z := (s.a &&& (readOperand o s).value) == 0,
                      n := (readOperand o s).value.getLsbD 7, v := (readOperand o s).value.getLsbD 6 }
      stepCycles := c } := by
  unfold bitTest
  simp only [finish_eq, State.setP, State.setCycles, bitFlags]

/-- What a read-modify-write answers. -/
theorem modifyMemory_eq {op : ByteOp} {g : Byte → Flags → Byte × Flags} (hg : ByteValueIs op g) (o : Operand) (c : Nat)
    (s : State) :
    let m := memRead (resolve o s).ea s
    let r := byteResult op m.1.toNat s.p.c
    modifyMemory g o c s = .next { memWrite (resolve o s).ea (BitVec.ofNat 8 r.1) m.2 with
      p := { withNZ s.p (BitVec.ofNat 8 r.1) with c := r.2 }
      stepCycles := c } := by
  intro m r
  unfold modifyMemory
  simp only [resolve_state, finish_eq, hg _ _]
  rfl

/-- What an accumulator shift answers. -/
theorem modifyAccumulator_eq {op : ByteOp} {g : Byte → Flags → Byte × Flags} (hg : ByteValueIs op g) (c : Nat) (s : State) :
    let r := byteResult op s.a.toNat s.p.c
    modifyAccumulator g c s = .next { s with
      a := BitVec.ofNat 8 r.1
      p := { withNZ s.p (BitVec.ofNat 8 r.1) with c := r.2 }
      stepCycles := c } := by
  intro r
  unfold modifyAccumulator
  simp only [finish_eq, hg _ _]
  rfl

/-- What a register move answers. -/
theorem moveRegister_eq {put : State → Byte → State} {r : Reg} (hput : ∀ s v, put s v = s.withReg r v) (v : Byte) (c : Nat)
    (s : State) : moveRegister put v c s = .next { s.withReg r v with p := withNZ s.p v, stepCycles := c } := by
  unfold moveRegister
  simp only [hput, finish_eq, State.setNZ, State.setP, State.setCycles, setNZ_eq_withNZ]
  cases r <;> rfl

/-- A branch target: PC plus the signed offset, modulo 65,536. -/
theorem branchTarget_eq (pc : Word) (b : Byte) : pc + sext16 b = BitVec.ofInt 16 (pc.toNat + b.toInt) := by
  apply BitVec.eq_of_toInt_eq
  unfold sext16
  rw [BitVec.toInt_ofInt, BitVec.toInt_add, BitVec.toInt_signExtend_of_le (by decide), BitVec.toInt_eq_toNat_bmod pc, Int.bmod_add_bmod]

/-- Two addresses lie in different pages, in numbers. -/
theorem pageDiffers_eq (a b : Word) : pageDiffers a b = decide (a.toNat / 256 ≠ b.toNat / 256) := by
  have ha := a.isLt
  have hb := b.isLt
  unfold pageDiffers hiByte
  rw [Bool.eq_iff_iff, bne_iff_ne, decide_eq_true_eq, ne_eq, ne_eq, ← BitVec.toNat_inj, BitVec.extractLsb'_toNat,
    BitVec.extractLsb'_toNat, Nat.shiftRight_eq_div_pow, Nat.shiftRight_eq_div_pow]
  omega

/-- What a branch answers. -/
theorem branchIf_eq (cond : Bool) (b : Byte) (s : State) :
    let target := BitVec.ofInt 16 (s.pc.toNat + b.toInt)
    branchIf cond b s = .next (if cond then
        { s with pc := target, stepCycles := if target.toNat / 256 = s.pc.toNat / 256 then 3 else 4 }
      else { s with stepCycles := 2 }) := by
  intro target
  unfold branchIf
  cases cond
  · rfl
  · simp only [if_true, finish_eq, branchTarget_eq, pageDiffers_eq, penalty, State.setPc, State.setCycles]
    have h : ∀ q : Prop, [Decidable q] → 3 + (if decide (¬q) = true then 1 else 0) = if q then 3 else 4 := by
      intro q _
      by_cases hq : q <;> simp [hq]
    rw [h]

/-- What a NOP-equivalent answers under the default policy. -/
theorem nopEquivalent_eq (op : Byte) (c : Nat) (s : State) (h : s.cfg.illegalPolicy = .nop) :
    nopEquivalent op c s = .next { s with stepCycles := c } := by
  unfold nopEquivalent
  rw [h]
  rfl

end Sys2Proof.Machine
end

