-- ==== Sys2Proof/Tests/Slice0.lean ====
section
/-! SUPPORT. Tests of well-formedness, decoding, single steps and devices, and a witness for every obligation that has
hypotheses, clause by clause. Expected values come from the spec: encodings from 30_encoding (opcode table), steps and devices
from spec/95_test_vectors.md (each test names its vector), refusals from 00_scope R7 and 53_orchestrator R473. -/

namespace Sys2Proof.Tests

open Sys2Proof Sys2Proof.Machine

/-! ## Well-formedness: the checks refuse ill-formed terms -/

theorem test_nopStar_of_documented_opcode_is_refused :
    Instr.wellFormed (.nopStarImp 0xEA#8) = false ∧ Instr.wellFormed (.nopStarImm 0xA9#8 1#8) = false := by decide

theorem test_nopStar_of_another_shape_is_refused :
    Instr.wellFormed (.nopStarImp 0x04#8) = false ∧ Instr.wellFormed (.nopStarImm 0x02#8 1#8) = false ∧
    Instr.wellFormed (.nopStarZp 0x14#8 1#8) = false ∧ Instr.wellFormed (.nopStarZpx 0x04#8 1#8) = false ∧
    Instr.wellFormed (.nopStarZpy 0x14#8 1#8) = false ∧ Instr.wellFormed (.nopStarAbs 0x1C#8 1#16) = false ∧
    Instr.wellFormed (.nopStarAbsx 0x0C#8 1#16) = false ∧ Instr.wellFormed (.nopStarAbsy 0x1C#8 1#16) = false ∧
    Instr.wellFormed (.nopStarIndx 0x13#8 1#8) = false ∧ Instr.wellFormed (.nopStarIndy 0x03#8 1#8) = false := by decide

theorem test_instructions_are_wellFormed :
    Instr.wellFormed (.ldaImm 0xFF#8) = true ∧ Instr.wellFormed (.nopStarZpy 0x97#8 0#8) = true := by decide

/-- O6. -/
theorem test_unknown_mapper_is_refused :
    RomFile.check ⟨.other 7, [], [], .vertical, false⟩ = .error (.unknownMapper 7) := by decide

theorem test_empty_prg_is_refused :
    RomFile.check ⟨.known .nrom, [], [], .vertical, false⟩ = .error (.badPrgLength 0) := by decide

theorem test_short_prg_is_refused :
    RomFile.check ⟨.known .nrom, [0x4C#8, 0x00#8, 0x80#8], [], .vertical, false⟩ = .error (.badPrgLength 3) := by decide

theorem test_short_chr_is_refused (prg : List Byte) (h : prg.length = 16384) :
    RomFile.check ⟨.known .mmc3, prg, [0x01#8], .vertical, false⟩ = .error (.badChrLength 1) := by
  simp [RomFile.check, h]

theorem test_rom_image_lengths :
    RomImage.wellFormed RomImage.blank = true ∧ RomImage.wellFormed { RomImage.blank with prgLen := 0 } = false ∧
    RomImage.wellFormed { RomImage.blank with prgLen := 8192 } = false ∧
    RomImage.wellFormed { RomImage.blank with chrLen := 1 } = false := by decide

theorem test_parameters :
    Config.wellFormed Config.default = true ∧ Config.wellFormed { Config.default with resetP := 0x20#8 } = false ∧
    Config.wellFormed { Config.default with stallChunk := 0 } = false ∧
    Config.wellFormed { Config.default with nmiDelayDots := 0 } = false ∧
    Config.wellFormed { Config.default with scanlinesPerFrame := 0 } = false ∧
    Config.wellFormed { Config.default with frameSeqPeriod := 0 } = false ∧
    Config.wellFormed { Config.default with cpuHz := 0 } = false := by decide

/-! ## Decoding: a word of every constructor, written out from the opcode table (30_encoding R119, R122)

Operand byte `$34`, operand word `$1234` (bytes `34 12`). -/

theorem test_decode_load_store_1 :
    decodeTableWord 16 0x3481 = some (.staIndx 0x34#8) ∧
    decodeTableWord 16 0x3484 = some (.styZp 0x34#8) ∧
    decodeTableWord 16 0x3485 = some (.staZp 0x34#8) ∧
    decodeTableWord 16 0x3486 = some (.stxZp 0x34#8) ∧
    decodeTableWord 24 0x12348C = some (.styAbs 0x1234#16) ∧
    decodeTableWord 24 0x12348D = some (.staAbs 0x1234#16) ∧
    decodeTableWord 24 0x12348E = some (.stxAbs 0x1234#16) ∧
    decodeTableWord 16 0x3491 = some (.staIndy 0x34#8) ∧
    decodeTableWord 16 0x3494 = some (.styZpx 0x34#8) ∧
    decodeTableWord 16 0x3495 = some (.staZpx 0x34#8) ∧
    decodeTableWord 16 0x3496 = some (.stxZpy 0x34#8) ∧
    decodeTableWord 24 0x123499 = some (.staAbsy 0x1234#16) ∧
    decodeTableWord 24 0x12349D = some (.staAbsx 0x1234#16) ∧
    decodeTableWord 16 0x34A0 = some (.ldyImm 0x34#8) ∧
    decodeTableWord 16 0x34A1 = some (.ldaIndx 0x34#8) ∧
    decodeTableWord 16 0x34A2 = some (.ldxImm 0x34#8) ∧
    decodeTableWord 16 0x34A4 = some (.ldyZp 0x34#8) ∧
    decodeTableWord 16 0x34A5 = some (.ldaZp 0x34#8) ∧
    decodeTableWord 16 0x34A6 = some (.ldxZp 0x34#8) ∧
    decodeTableWord 16 0x34A9 = some (.ldaImm 0x34#8) := by decide

theorem test_decode_load_store_2 :
    decodeTableWord 24 0x1234AC = some (.ldyAbs 0x1234#16) ∧
    decodeTableWord 24 0x1234AD = some (.ldaAbs 0x1234#16) ∧
    decodeTableWord 24 0x1234AE = some (.ldxAbs 0x1234#16) ∧
    decodeTableWord 16 0x34B1 = some (.ldaIndy 0x34#8) ∧
    decodeTableWord 16 0x34B4 = some (.ldyZpx 0x34#8) ∧
    decodeTableWord 16 0x34B5 = some (.ldaZpx 0x34#8) ∧
    decodeTableWord 16 0x34B6 = some (.ldxZpy 0x34#8) ∧
    decodeTableWord 24 0x1234B9 = some (.ldaAbsy 0x1234#16) ∧
    decodeTableWord 24 0x1234BC = some (.ldyAbsx 0x1234#16) ∧
    decodeTableWord 24 0x1234BD = some (.ldaAbsx 0x1234#16) ∧
    decodeTableWord 24 0x1234BE = some (.ldxAbsy 0x1234#16) := by decide

theorem test_decode_transfer_stack :
    decodeTableWord 8 0x08 = some .php ∧
    decodeTableWord 8 0x28 = some .plp ∧
    decodeTableWord 8 0x48 = some .pha ∧
    decodeTableWord 8 0x68 = some .pla ∧
    decodeTableWord 8 0x8A = some .txa ∧
    decodeTableWord 8 0x98 = some .tya ∧
    decodeTableWord 8 0x9A = some .txs ∧
    decodeTableWord 8 0xA8 = some .tay ∧
    decodeTableWord 8 0xAA = some .tax ∧
    decodeTableWord 8 0xBA = some .tsx := by decide

theorem test_decode_arith_logic_1 :
    decodeTableWord 16 0x3401 = some (.oraIndx 0x34#8) ∧
    decodeTableWord 16 0x3405 = some (.oraZp 0x34#8) ∧
    decodeTableWord 16 0x3409 = some (.oraImm 0x34#8) ∧
    decodeTableWord 24 0x12340D = some (.oraAbs 0x1234#16) ∧
    decodeTableWord 16 0x3411 = some (.oraIndy 0x34#8) ∧
    decodeTableWord 16 0x3415 = some (.oraZpx 0x34#8) ∧
    decodeTableWord 24 0x123419 = some (.oraAbsy 0x1234#16) ∧
    decodeTableWord 24 0x12341D = some (.oraAbsx 0x1234#16) ∧
    decodeTableWord 16 0x3421 = some (.andIndx 0x34#8) ∧
    decodeTableWord 16 0x3424 = some (.bitZp 0x34#8) ∧
    decodeTableWord 16 0x3425 = some (.andZp 0x34#8) ∧
    decodeTableWord 16 0x3429 = some (.andImm 0x34#8) ∧
    decodeTableWord 24 0x12342C = some (.bitAbs 0x1234#16) ∧
    decodeTableWord 24 0x12342D = some (.andAbs 0x1234#16) ∧
    decodeTableWord 16 0x3431 = some (.andIndy 0x34#8) ∧
    decodeTableWord 16 0x3435 = some (.andZpx 0x34#8) ∧
    decodeTableWord 24 0x123439 = some (.andAbsy 0x1234#16) ∧
    decodeTableWord 24 0x12343D = some (.andAbsx 0x1234#16) ∧
    decodeTableWord 16 0x3441 = some (.eorIndx 0x34#8) ∧
    decodeTableWord 16 0x3445 = some (.eorZp 0x34#8) := by decide

theorem test_decode_arith_logic_2 :
    decodeTableWord 16 0x3449 = some (.eorImm 0x34#8) ∧
    decodeTableWord 24 0x12344D = some (.eorAbs 0x1234#16) ∧
    decodeTableWord 16 0x3451 = some (.eorIndy 0x34#8) ∧
    decodeTableWord 16 0x3455 = some (.eorZpx 0x34#8) ∧
    decodeTableWord 24 0x123459 = some (.eorAbsy 0x1234#16) ∧
    decodeTableWord 24 0x12345D = some (.eorAbsx 0x1234#16) ∧
    decodeTableWord 16 0x3461 = some (.adcIndx 0x34#8) ∧
    decodeTableWord 16 0x3465 = some (.adcZp 0x34#8) ∧
    decodeTableWord 16 0x3469 = some (.adcImm 0x34#8) ∧
    decodeTableWord 24 0x12346D = some (.adcAbs 0x1234#16) ∧
    decodeTableWord 16 0x3471 = some (.adcIndy 0x34#8) ∧
    decodeTableWord 16 0x3475 = some (.adcZpx 0x34#8) ∧
    decodeTableWord 24 0x123479 = some (.adcAbsy 0x1234#16) ∧
    decodeTableWord 24 0x12347D = some (.adcAbsx 0x1234#16) ∧
    decodeTableWord 16 0x34C0 = some (.cpyImm 0x34#8) ∧
    decodeTableWord 16 0x34C1 = some (.cmpIndx 0x34#8) ∧
    decodeTableWord 16 0x34C4 = some (.cpyZp 0x34#8) ∧
    decodeTableWord 16 0x34C5 = some (.cmpZp 0x34#8) ∧
    decodeTableWord 16 0x34C9 = some (.cmpImm 0x34#8) ∧
    decodeTableWord 24 0x1234CC = some (.cpyAbs 0x1234#16) := by decide

theorem test_decode_arith_logic_3 :
    decodeTableWord 24 0x1234CD = some (.cmpAbs 0x1234#16) ∧
    decodeTableWord 16 0x34D1 = some (.cmpIndy 0x34#8) ∧
    decodeTableWord 16 0x34D5 = some (.cmpZpx 0x34#8) ∧
    decodeTableWord 24 0x1234D9 = some (.cmpAbsy 0x1234#16) ∧
    decodeTableWord 24 0x1234DD = some (.cmpAbsx 0x1234#16) ∧
    decodeTableWord 16 0x34E0 = some (.cpxImm 0x34#8) ∧
    decodeTableWord 16 0x34E1 = some (.sbcIndx 0x34#8) ∧
    decodeTableWord 16 0x34E4 = some (.cpxZp 0x34#8) ∧
    decodeTableWord 16 0x34E5 = some (.sbcZp 0x34#8) ∧
    decodeTableWord 16 0x34E9 = some (.sbcImm 0x34#8) ∧
    decodeTableWord 24 0x1234EC = some (.cpxAbs 0x1234#16) ∧
    decodeTableWord 24 0x1234ED = some (.sbcAbs 0x1234#16) ∧
    decodeTableWord 16 0x34F1 = some (.sbcIndy 0x34#8) ∧
    decodeTableWord 16 0x34F5 = some (.sbcZpx 0x34#8) ∧
    decodeTableWord 24 0x1234F9 = some (.sbcAbsy 0x1234#16) ∧
    decodeTableWord 24 0x1234FD = some (.sbcAbsx 0x1234#16) := by decide

theorem test_decode_shift_count_1 :
    decodeTableWord 16 0x3406 = some (.aslZp 0x34#8) ∧
    decodeTableWord 8 0x0A = some .aslAcc ∧
    decodeTableWord 24 0x12340E = some (.aslAbs 0x1234#16) ∧
    decodeTableWord 16 0x3416 = some (.aslZpx 0x34#8) ∧
    decodeTableWord 24 0x12341E = some (.aslAbsx 0x1234#16) ∧
    decodeTableWord 16 0x3426 = some (.rolZp 0x34#8) ∧
    decodeTableWord 8 0x2A = some .rolAcc ∧
    decodeTableWord 24 0x12342E = some (.rolAbs 0x1234#16) ∧
    decodeTableWord 16 0x3436 = some (.rolZpx 0x34#8) ∧
    decodeTableWord 24 0x12343E = some (.rolAbsx 0x1234#16) ∧
    decodeTableWord 16 0x3446 = some (.lsrZp 0x34#8) ∧
    decodeTableWord 8 0x4A = some .lsrAcc ∧
    decodeTableWord 24 0x12344E = some (.lsrAbs 0x1234#16) ∧
    decodeTableWord 16 0x3456 = some (.lsrZpx 0x34#8) ∧
    decodeTableWord 24 0x12345E = some (.lsrAbsx 0x1234#16) ∧
    decodeTableWord 16 0x3466 = some (.rorZp 0x34#8) ∧
    decodeTableWord 8 0x6A = some .rorAcc ∧
    decodeTableWord 24 0x12346E = some (.rorAbs 0x1234#16) ∧
    decodeTableWord 16 0x3476 = some (.rorZpx 0x34#8) ∧
    decodeTableWord 24 0x12347E = some (.rorAbsx 0x1234#16) := by decide

theorem test_decode_shift_count_2 :
    decodeTableWord 8 0x88 = some .dey ∧
    decodeTableWord 16 0x34C6 = some (.decZp 0x34#8) ∧
    decodeTableWord 8 0xC8 = some .iny ∧
    decodeTableWord 8 0xCA = some .dex ∧
    decodeTableWord 24 0x1234CE = some (.decAbs 0x1234#16) ∧
    decodeTableWord 16 0x34D6 = some (.decZpx 0x34#8) ∧
    decodeTableWord 24 0x1234DE = some (.decAbsx 0x1234#16) ∧
    decodeTableWord 16 0x34E6 = some (.incZp 0x34#8) ∧
    decodeTableWord 8 0xE8 = some .inx ∧
    decodeTableWord 24 0x1234EE = some (.incAbs 0x1234#16) ∧
    decodeTableWord 16 0x34F6 = some (.incZpx 0x34#8) ∧
    decodeTableWord 24 0x1234FE = some (.incAbsx 0x1234#16) := by decide

theorem test_decode_control :
    decodeTableWord 16 0x3410 = some (.bpl 0x34#8) ∧
    decodeTableWord 24 0x123420 = some (.jsr 0x1234#16) ∧
    decodeTableWord 16 0x3430 = some (.bmi 0x34#8) ∧
    decodeTableWord 24 0x12344C = some (.jmpAbs 0x1234#16) ∧
    decodeTableWord 16 0x3450 = some (.bvc 0x34#8) ∧
    decodeTableWord 8 0x60 = some .rts ∧
    decodeTableWord 24 0x12346C = some (.jmpInd 0x1234#16) ∧
    decodeTableWord 16 0x3470 = some (.bvs 0x34#8) ∧
    decodeTableWord 16 0x3490 = some (.bcc 0x34#8) ∧
    decodeTableWord 16 0x34B0 = some (.bcs 0x34#8) ∧
    decodeTableWord 16 0x34D0 = some (.bne 0x34#8) ∧
    decodeTableWord 16 0x34F0 = some (.beq 0x34#8) := by decide

theorem test_decode_system_flags :
    decodeTableWord 8 0x00 = some .brk ∧
    decodeTableWord 8 0x18 = some .clc ∧
    decodeTableWord 8 0x38 = some .sec ∧
    decodeTableWord 8 0x40 = some .rti ∧
    decodeTableWord 8 0x58 = some .cli ∧
    decodeTableWord 8 0x78 = some .sei ∧
    decodeTableWord 8 0xB8 = some .clv ∧
    decodeTableWord 8 0xD8 = some .cld ∧
    decodeTableWord 8 0xEA = some .nop ∧
    decodeTableWord 8 0xF8 = some .sed := by decide

theorem test_decode_nopStarImp :
    [0x02, 0x12, 0x1A, 0x22, 0x32, 0x3A, 0x42, 0x52, 0x5A, 0x62, 0x72, 0x7A, 0x92, 0xB2, 0xD2, 0xDA, 0xF2, 0xFA].all (fun op : Nat => decodeTableWord 8 (0x0 + op) == some (.nopStarImp (BitVec.ofNat 8 op))) = true := by decide

theorem test_decode_nopStarIndx :
    [0x03, 0x23, 0x43, 0x63, 0x83, 0xA3, 0xC3, 0xE3].all (fun op : Nat => decodeTableWord 16 (0x3400 + op) == some (.nopStarIndx (BitVec.ofNat 8 op) 0x34#8)) = true := by decide

theorem test_decode_nopStarZp :
    [0x04, 0x07, 0x27, 0x44, 0x47, 0x64, 0x67, 0x87, 0xA7, 0xC7, 0xE7].all (fun op : Nat => decodeTableWord 16 (0x3400 + op) == some (.nopStarZp (BitVec.ofNat 8 op) 0x34#8)) = true := by decide

theorem test_decode_nopStarImm :
    [0x0B, 0x2B, 0x4B, 0x6B, 0x80, 0x82, 0x89, 0x8B, 0xAB, 0xC2, 0xCB, 0xE2, 0xEB].all (fun op : Nat => decodeTableWord 16 (0x3400 + op) == some (.nopStarImm (BitVec.ofNat 8 op) 0x34#8)) = true := by decide

theorem test_decode_nopStarAbs :
    [0x0C, 0x0F, 0x2F, 0x4F, 0x6F, 0x8F, 0xAF, 0xCF, 0xEF].all (fun op : Nat => decodeTableWord 24 (0x123400 + op) == some (.nopStarAbs (BitVec.ofNat 8 op) 0x1234#16)) = true := by decide

theorem test_decode_nopStarIndy :
    [0x13, 0x33, 0x53, 0x73, 0x93, 0xB3, 0xD3, 0xF3].all (fun op : Nat => decodeTableWord 16 (0x3400 + op) == some (.nopStarIndy (BitVec.ofNat 8 op) 0x34#8)) = true := by decide

theorem test_decode_nopStarZpx :
    [0x14, 0x17, 0x34, 0x37, 0x54, 0x57, 0x74, 0x77, 0xD4, 0xD7, 0xF4, 0xF7].all (fun op : Nat => decodeTableWord 16 (0x3400 + op) == some (.nopStarZpx (BitVec.ofNat 8 op) 0x34#8)) = true := by decide

theorem test_decode_nopStarAbsy :
    [0x1B, 0x3B, 0x5B, 0x7B, 0x9B, 0x9E, 0x9F, 0xBB, 0xBF, 0xDB, 0xFB].all (fun op : Nat => decodeTableWord 24 (0x123400 + op) == some (.nopStarAbsy (BitVec.ofNat 8 op) 0x1234#16)) = true := by decide

theorem test_decode_nopStarAbsx :
    [0x1C, 0x1F, 0x3C, 0x3F, 0x5C, 0x5F, 0x7C, 0x7F, 0x9C, 0xDC, 0xDF, 0xFC, 0xFF].all (fun op : Nat => decodeTableWord 24 (0x123400 + op) == some (.nopStarAbsx (BitVec.ofNat 8 op) 0x1234#16)) = true := by decide

theorem test_decode_nopStarZpy :
    [0x97, 0xB7].all (fun op : Nat => decodeTableWord 16 (0x3400 + op) == some (.nopStarZpy (BitVec.ofNat 8 op) 0x34#8)) = true := by decide

theorem test_decode_takes_its_bytes_only :
    decode [0xA9#8, 0x80#8, 0xEA#8] = .ok (.ldaImm 0x80#8, [0xEA#8]) ∧ encode (.jmpInd 0x02FF#16) = [0x6C#8, 0xFF#8, 0x02#8] := by
  decide

/-- Bytes that end inside an instruction are refused by name. -/
theorem test_decode_refuses_short_input :
    decode [] = .error .noOpcode ∧ decode [0xAD#8, 0x34#8] = .error (.missingOperand 0xAD#8) := by decide

/-! ## Single CPU steps (spec/95_test_vectors.md sections 2.1 to 2.7) -/

/-- The start state of the vectors: NROM, PC at `$8000`, all flags clear. -/
def onCart : State := { State.reset with pc := 0x8000#16, p := ⟨false, false, false, false, false, false⟩ }

/-- Bytes placed from an address on. -/
def put : Word → List Byte → State → State
  | _, [], s => s
  | a, b :: rest, s => put (a + 1) rest (placeByte a b s)

/-- The flags N V D I Z C from six bits in that order. -/
def fl (b : BitVec 6) : Flags := ⟨b.getLsbD 5, b.getLsbD 4, b.getLsbD 3, b.getLsbD 2, b.getLsbD 1, b.getLsbD 0⟩

/-- From `start`, with the bytes placed at `at0` and PC there, one step gives `fin` of that state, with the given PC and cycles
and no other change. -/
def goesFrom (at0 : Word) (bytes : List Byte) (start fin : State → State) (pc : Word) (cycles : Nat) : Bool :=
  let s := put at0 bytes { start onCart with pc := at0 }
  match emulate s with
  | .next t    => decide (t = { fin s with pc := pc, stepCycles := cycles })
  | .fault _   => false
  | .refused _ => false

/-- `goesFrom` at `$8000`. -/
def goes (bytes : List Byte) (start fin : State → State) (pc : Word) (cycles : Nat) : Bool :=
  goesFrom 0x8000#16 bytes start fin pc cycles

/-- LS1. -/
theorem test_lda_zero :
    goes [0xA9#8, 0x00#8]
      (fun s => { s with a := 0x55#8 })
      (fun s => { s with a := 0x00#8, p := fl 0b000010#6 })
      0x8002#16 2 = true := by decide

/-- LS2. -/
theorem test_lda_negative :
    goes [0xA9#8, 0x80#8]
      id
      (fun s => { s with a := 0x80#8, p := fl 0b100000#6 })
      0x8002#16 2 = true := by decide

/-- LS3. -/
theorem test_lda_absx_crosses_a_page :
    goes [0xBD#8, 0xF0#8, 0x12#8]
      (fun s => put 0x0310#16 [0x80#8] { s with x := 0x20#8 })
      (fun s => { s with a := 0x80#8, p := fl 0b100000#6 })
      0x8003#16 5 = true := by decide

/-- LS4. -/
theorem test_lda_absx_in_page :
    goes [0xBD#8, 0xF0#8, 0x10#8]
      (fun s => put 0x00F5#16 [0x01#8] { s with x := 0x05#8 })
      (fun s => { s with a := 0x01#8 })
      0x8003#16 4 = true := by decide

/-- LS5. -/
theorem test_lda_indy_pointer_wraps :
    goes [0xB1#8, 0xFF#8]
      (fun s => put 0x0310#16 [0x77#8] (put 0x0000#16 [0x02#8] (put 0x00FF#16 [0xF0#8] { s with y := 0x20#8 })))
      (fun s => { s with a := 0x77#8 })
      0x8002#16 6 = true := by decide

/-- LS6. -/
theorem test_lda_indx_pointer_wraps :
    goes [0xA1#8, 0xF0#8]
      (fun s => put 0x0234#16 [0x99#8] (put 0x0000#16 [0x02#8] (put 0x00FF#16 [0x34#8] { s with x := 0x0F#8 })))
      (fun s => { s with a := 0x99#8, p := fl 0b100000#6 })
      0x8002#16 6 = true := by decide

/-- LS7. -/
theorem test_ldx_zpy_wraps :
    goes [0xB6#8, 0xF0#8]
      (fun s => put 0x0010#16 [0x7F#8] { s with y := 0x20#8 })
      (fun s => { s with x := 0x7F#8 })
      0x8002#16 4 = true := by decide

/-- LS8. -/
theorem test_sta_last_mirror :
    goes [0x8D#8, 0xFF#8, 0x1F#8]
      (fun s => { s with a := 0xAB#8 })
      (fun s => put 0x07FF#16 [0xAB#8] s)
      0x8003#16 4 = true := by decide

/-- LS9. -/
theorem test_sta_absx_fixed_cycles :
    goes [0x9D#8, 0xFF#8, 0x00#8]
      (fun s => { s with a := 0x11#8, x := 0x01#8 })
      (fun s => put 0x0100#16 [0x11#8] s)
      0x8003#16 5 = true := by decide

/-- LS10. -/
theorem test_sty_zpx_wraps :
    goes [0x94#8, 0xFF#8]
      (fun s => { s with x := 0x02#8, y := 0x09#8 })
      (fun s => put 0x0001#16 [0x09#8] s)
      0x8002#16 4 = true := by decide

/-- LS11. -/
theorem test_sta_to_rom_changes_nothing :
    goes [0x8D#8, 0x00#8, 0x80#8]
      (fun s => { s with a := 0x80#8 })
      id
      0x8003#16 4 = true := by decide

/-- LS12. -/
theorem test_lda_absy_wraps_the_address :
    goes [0xB9#8, 0xFF#8, 0xFF#8]
      (fun s => put 0x0001#16 [0x42#8] { s with y := 0x02#8 })
      (fun s => { s with a := 0x42#8 })
      0x8003#16 5 = true := by decide

/-- LS13. -/
theorem test_sta_indy_fixed_cycles :
    goes [0x91#8, 0x10#8]
      (fun s => put 0x0010#16 [0xFF#8, 0x02#8] { s with a := 0x33#8, y := 0x01#8 })
      (fun s => put 0x0300#16 [0x33#8] s)
      0x8002#16 6 = true := by decide

/-- LS14. -/
theorem test_lda_of_a_mirrored_byte :
    goes [0xA5#8, 0x00#8]
      (fun s => put 0x0800#16 [0x5C#8] s)
      (fun s => { s with a := 0x5C#8 })
      0x8002#16 3 = true := by decide

/-- TS1. -/
theorem test_tax :
    goes [0xAA#8]
      (fun s => { s with x := 0x11#8 })
      (fun s => { s with x := 0x00#8, p := fl 0b000010#6 })
      0x8001#16 2 = true := by decide

/-- TS2. -/
theorem test_txs_writes_no_flag :
    goes [0x9A#8]
      (fun s => { s with sp := 0x55#8, p := fl 0b100000#6 })
      (fun s => { s with sp := 0x00#8 })
      0x8001#16 2 = true := by decide

/-- TS3. -/
theorem test_tsx :
    goes [0xBA#8]
      (fun s => { s with sp := 0x80#8 })
      (fun s => { s with x := 0x80#8, p := fl 0b100000#6 })
      0x8001#16 2 = true := by decide

/-- TS4. -/
theorem test_pha_wraps :
    goes [0x48#8]
      (fun s => { s with a := 0x7E#8, sp := 0x00#8 })
      (fun s => put 0x0100#16 [0x7E#8] { s with sp := 0xFF#8 })
      0x8001#16 3 = true := by decide

/-- TS5. -/
theorem test_pla_wraps :
    goes [0x68#8]
      (fun s => { s with sp := 0xFF#8 })
      (fun s => { s with sp := 0x00#8, p := fl 0b000010#6 })
      0x8001#16 4 = true := by decide

/-- TS6. -/
theorem test_php_image :
    goes [0x08#8]
      (fun s => { s with p := fl 0b101011#6 })
      (fun s => put 0x01FD#16 [0xBB#8] { s with sp := 0xFC#8 })
      0x8001#16 3 = true := by decide

/-- TS7. -/
theorem test_plp_loads_six_flags :
    goes [0x28#8]
      (fun s => put 0x01FD#16 [0xFF#8] { s with sp := 0xFC#8 })
      (fun s => { s with sp := 0xFD#8, p := fl 0b111111#6 })
      0x8001#16 4 = true := by decide

/-- TS8. -/
theorem test_plp_ignores_two_bits :
    goes [0x28#8]
      (fun s => put 0x01FD#16 [0x30#8] { s with sp := 0xFC#8, p := fl 0b100101#6 })
      (fun s => { s with sp := 0xFD#8, p := fl 0b000000#6 })
      0x8001#16 4 = true := by decide

/-- TS9. -/
theorem test_tya :
    goes [0x98#8]
      (fun s => { s with y := 0xF0#8 })
      (fun s => { s with a := 0xF0#8, p := fl 0b100000#6 })
      0x8001#16 2 = true := by decide

/-- AL1. -/
theorem test_adc_overflow :
    goes [0x69#8, 0x01#8]
      (fun s => { s with a := 0x7F#8, p := fl 0b000000#6 })
      (fun s => { s with a := 0x80#8, p := fl 0b110000#6 })
      0x8002#16 2 = true := by decide

/-- AL3. -/
theorem test_adc_carry_in_and_out :
    goes [0x69#8, 0xFF#8]
      (fun s => { s with a := 0xFF#8, p := fl 0b000001#6 })
      (fun s => { s with a := 0xFF#8, p := fl 0b100001#6 })
      0x8002#16 2 = true := by decide

/-- AL9. -/
theorem test_sbc_overflow :
    goes [0xE9#8, 0x01#8]
      (fun s => { s with a := 0x80#8, p := fl 0b000001#6 })
      (fun s => { s with a := 0x7F#8, p := fl 0b010001#6 })
      0x8002#16 2 = true := by decide

/-- AL11. -/
theorem test_sbc_ignores_decimal :
    goes [0xE9#8, 0x01#8]
      (fun s => { s with a := 0x10#8, p := fl 0b001001#6 })
      (fun s => { s with a := 0x0F#8, p := fl 0b001001#6 })
      0x8002#16 2 = true := by decide

/-- AL12. -/
theorem test_cmp_is_unsigned :
    goes [0xC9#8, 0x01#8]
      (fun s => { s with a := 0x80#8, p := fl 0b000000#6 })
      (fun s => { s with a := 0x80#8, p := fl 0b000001#6 })
      0x8002#16 2 = true := by decide

/-- AL14. -/
theorem test_cmp_equal_keeps_v :
    goes [0xC9#8, 0x7F#8]
      (fun s => { s with a := 0x7F#8, p := fl 0b010000#6 })
      (fun s => { s with a := 0x7F#8, p := fl 0b010011#6 })
      0x8002#16 2 = true := by decide

/-- AL19. -/
theorem test_and :
    goes [0x29#8, 0x0F#8]
      (fun s => { s with a := 0xF5#8, p := fl 0b000000#6 })
      (fun s => { s with a := 0x05#8, p := fl 0b000000#6 })
      0x8002#16 2 = true := by decide

/-- AL20. -/
theorem test_ora :
    goes [0x09#8, 0x80#8]
      (fun s => { s with a := 0x01#8, p := fl 0b000000#6 })
      (fun s => { s with a := 0x81#8, p := fl 0b100000#6 })
      0x8002#16 2 = true := by decide

/-- AL21. -/
theorem test_eor :
    goes [0x49#8, 0xFF#8]
      (fun s => { s with a := 0xFF#8, p := fl 0b000000#6 })
      (fun s => { s with a := 0x00#8, p := fl 0b000010#6 })
      0x8002#16 2 = true := by decide

/-- AL23. -/
theorem test_undocumented_EB_is_no_sbc :
    goes [0xEB#8, 0x01#8]
      (fun s => { s with a := 0x10#8, p := fl 0b000001#6 })
      (fun s => { s with a := 0x10#8, p := fl 0b000001#6 })
      0x8002#16 2 = true := by decide

/-- AL22. -/
theorem test_adc_indy_crosses_a_page :
    goes [0x71#8, 0x40#8]
      (fun s => put 0x0400#16 [0x02#8] (put 0x0040#16 [0x01#8, 0x03#8] { s with a := 0x01#8, y := 0xFF#8 }))
      (fun s => { s with a := 0x03#8 })
      0x8002#16 6 = true := by decide

/-- AL15. -/
theorem test_cpx_equal :
    goes [0xE0#8, 0x08#8]
      (fun s => { s with x := 0x08#8 })
      (fun s => { s with p := fl 0b000011#6 })
      0x8002#16 2 = true := by decide

/-- AL16. -/
theorem test_cpy_below : goes [0xC0#8, 0x01#8] id (fun s => { s with p := fl 0b100000#6 }) 0x8002#16 2 = true := by decide

/-- AL17. -/
theorem test_bit_zp :
    goes [0x24#8, 0x10#8]
      (fun s => put 0x0010#16 [0xC0#8] { s with a := 0x01#8 })
      (fun s => { s with p := fl 0b110010#6 })
      0x8002#16 3 = true := by decide

/-- AL18. -/
theorem test_bit_abs :
    goes [0x2C#8, 0x00#8, 0x03#8]
      (fun s => put 0x0300#16 [0x3F#8] { s with a := 0xFF#8 })
      id
      0x8003#16 4 = true := by decide

/-- SH1. -/
theorem test_asl :
    goes [0x0A#8]
      (fun s => { s with a := 0x80#8, p := fl 0b000000#6 })
      (fun s => { s with a := 0x00#8, p := fl 0b000011#6 })
      0x8001#16 2 = true := by decide

/-- SH2. -/
theorem test_lsr :
    goes [0x4A#8]
      (fun s => { s with a := 0x01#8, p := fl 0b000000#6 })
      (fun s => { s with a := 0x00#8, p := fl 0b000011#6 })
      0x8001#16 2 = true := by decide

/-- SH3. -/
theorem test_rol_out :
    goes [0x2A#8]
      (fun s => { s with a := 0x80#8, p := fl 0b000000#6 })
      (fun s => { s with a := 0x00#8, p := fl 0b000011#6 })
      0x8001#16 2 = true := by decide

/-- SH4. -/
theorem test_rol_in :
    goes [0x2A#8]
      (fun s => { s with a := 0x00#8, p := fl 0b000001#6 })
      (fun s => { s with a := 0x01#8, p := fl 0b000000#6 })
      0x8001#16 2 = true := by decide

/-- SH5. -/
theorem test_ror_out :
    goes [0x6A#8]
      (fun s => { s with a := 0x01#8, p := fl 0b000000#6 })
      (fun s => { s with a := 0x00#8, p := fl 0b000011#6 })
      0x8001#16 2 = true := by decide

/-- SH6. -/
theorem test_ror_in :
    goes [0x6A#8]
      (fun s => { s with a := 0x00#8, p := fl 0b000001#6 })
      (fun s => { s with a := 0x80#8, p := fl 0b100000#6 })
      0x8001#16 2 = true := by decide

/-- SH7. -/
theorem test_inc_wraps :
    goes [0xE6#8, 0x10#8]
      (fun s => put 0x0010#16 [0xFF#8] s)
      (fun s => put 0x0010#16 [0x00#8] { s with p := fl 0b000010#6 })
      0x8002#16 5 = true := by decide

/-- SH8. -/
theorem test_dec_wraps :
    goes [0xC6#8, 0x10#8]
      (fun s => { s with p := fl 0b000001#6 })
      (fun s => put 0x0010#16 [0xFF#8] { s with p := fl 0b100001#6 })
      0x8002#16 5 = true := by decide

/-- SH9. -/
theorem test_inc_absx_fixed_cycles :
    goes [0xFE#8, 0xFF#8, 0x02#8]
      (fun s => put 0x0300#16 [0x7F#8] { s with x := 0x01#8 })
      (fun s => put 0x0300#16 [0x80#8] { s with p := fl 0b100000#6 })
      0x8003#16 7 = true := by decide

/-- SH10. -/
theorem test_asl_on_rom : goes [0x0E#8, 0x00#8, 0x80#8] id id 0x8003#16 6 = true := by decide

/-- SH11. -/
theorem test_inx_wraps :
    goes [0xE8#8]
      (fun s => { s with x := 0xFF#8 })
      (fun s => { s with x := 0x00#8, p := fl 0b000010#6 })
      0x8001#16 2 = true := by decide

/-- SH12. -/
theorem test_dey_wraps :
    goes [0x88#8]
      id
      (fun s => { s with y := 0xFF#8, p := fl 0b100000#6 })
      0x8001#16 2 = true := by decide

/-- SH13. -/
theorem test_ror_zpx_wraps :
    goes [0x76#8, 0xFF#8]
      (fun s => put 0x0000#16 [0x02#8] { s with x := 0x01#8, p := fl 0b000001#6 })
      (fun s => put 0x0000#16 [0x81#8] { s with p := fl 0b100000#6 })
      0x8002#16 6 = true := by decide

/-- SH14. -/
theorem test_lsr_absx :
    goes [0x5E#8, 0x00#8, 0x02#8]
      (fun s => put 0x0210#16 [0x03#8] { s with x := 0x10#8 })
      (fun s => put 0x0210#16 [0x01#8] { s with p := fl 0b000001#6 })
      0x8003#16 7 = true := by decide

/-- CT1. -/
theorem test_jmp_ind_wraps_in_page :
    goes [0x6C#8, 0xFF#8, 0x02#8]
      (fun s => put 0x0200#16 [0x12#8] (put 0x02FF#16 [0x34#8, 0x56#8] s))
      id
      0x1234#16 5 = true := by decide

/-- CT12. -/
theorem test_jmp_abs : goes [0x4C#8, 0x00#8, 0x80#8] id id 0x8000#16 3 = true := by decide

/-- CT2. -/
theorem test_jsr :
    goes [0x20#8, 0x00#8, 0x90#8]
      id
      (fun s => put 0x01FC#16 [0x02#8, 0x80#8] { s with sp := 0xFB#8 })
      0x9000#16 6 = true := by decide

/-- CT11. -/
theorem test_jsr_stack_wraps :
    goes [0x20#8, 0x34#8, 0x12#8]
      (fun s => { s with sp := 0x00#8 })
      (fun s => put 0x01FF#16 [0x02#8] (put 0x0100#16 [0x80#8] { s with sp := 0xFE#8 }))
      0x1234#16 6 = true := by decide

/-- CT3. -/
theorem test_rts :
    goes [0x60#8]
      (fun s => put 0x01FC#16 [0x02#8, 0x80#8] { s with sp := 0xFB#8 })
      (fun s => { s with sp := 0xFD#8 })
      0x8003#16 6 = true := by decide

/-- CT4. -/
theorem test_rts_wraps :
    goes [0x60#8]
      (fun s => put 0x0100#16 [0xFF#8] (put 0x01FF#16 [0xFF#8] { s with sp := 0xFE#8 }))
      (fun s => { s with sp := 0x00#8 })
      0x0000#16 6 = true := by decide

/-- CT5. -/
theorem test_bne_taken : goesFrom 0x8005#16 [0xD0#8, 0xFB#8] id id 0x8002#16 3 = true := by decide

/-- CT6. -/
theorem test_bne_not_taken :
    goesFrom 0x8005#16 [0xD0#8, 0xFB#8]
      (fun s => { s with p := fl 0b000010#6 })
      id
      0x8007#16 2 = true := by decide

/-- CT7. -/
theorem test_beq_crosses_a_page :
    goesFrom 0x80FC#16 [0xF0#8, 0x03#8]
      (fun s => { s with p := fl 0b000010#6 })
      id
      0x8101#16 4 = true := by decide

/-- CT8. -/
theorem test_bpl_back_over_a_page : goesFrom 0x80FE#16 [0x10#8, 0xFF#8] id id 0x80FF#16 4 = true := by decide

/-- CT9. -/
theorem test_bcc_offset_zero : goesFrom 0x80FD#16 [0x90#8, 0x00#8] id id 0x80FF#16 3 = true := by decide

/-- CT10. -/
theorem test_bvs_most_negative :
    goes [0x70#8, 0x80#8]
      (fun s => { s with p := fl 0b010000#6 })
      id
      0x7F82#16 4 = true := by decide

/-- CT13. -/
theorem test_bcs_most_positive :
    goesFrom 0x8080#16 [0xB0#8, 0x7F#8]
      (fun s => { s with p := fl 0b000001#6 })
      id
      0x8101#16 4 = true := by decide

/-- SY1. -/
theorem test_brk :
    goes [0x00#8]
      (fun s => put 0xFFFE#16 [0x00#8, 0x90#8] { s with p := fl 0b000001#6 })
      (fun s => put 0x01FB#16 [0x31#8, 0x02#8, 0x80#8] { s with sp := 0xFA#8, p := fl 0b000101#6 })
      0x9000#16 7 = true := by decide

/-- SY10. -/
theorem test_brk_stack_wraps :
    goes [0x00#8]
      (fun s => put 0xFFFE#16 [0x34#8, 0x12#8] { s with sp := 0x01#8, p := fl 0b101100#6 })
      (fun s => put 0x01FF#16 [0xBC#8] (put 0x0100#16 [0x02#8, 0x80#8] { s with sp := 0xFE#8 }))
      0x1234#16 7 = true := by decide

/-- SY2. -/
theorem test_rti :
    goes [0x40#8]
      (fun s => put 0x01FB#16 [0x31#8, 0x02#8, 0x80#8] { s with sp := 0xFA#8 })
      (fun s => { s with sp := 0xFD#8, p := fl 0b000001#6 })
      0x8002#16 6 = true := by decide

/-- SY3. -/
theorem test_rti_ignores_two_bits :
    goes [0x40#8]
      (fun s => put 0x01FB#16 [0xCF#8, 0xFF#8, 0xFF#8] { s with sp := 0xFA#8, p := fl 0b000100#6 })
      (fun s => { s with sp := 0xFD#8, p := fl 0b111111#6 })
      0xFFFF#16 6 = true := by decide

/-- SY4, first step. -/
theorem test_sed : goes [0xF8#8] id (fun s => { s with p := fl 0b001000#6 }) 0x8001#16 2 = true := by decide

/-- SY5. -/
theorem test_undocumented_zp : goes [0x04#8, 0x10#8] id id 0x8002#16 3 = true := by decide

/-- SY6. -/
theorem test_undocumented_abs_reads_nothing :
    goes [0x0C#8, 0x02#8, 0x20#8]
      (fun s => { s with ppu := { s.ppu with vblank := true } })
      id
      0x8003#16 4 = true := by decide

/-- SY7. -/
theorem test_undocumented_jam : goes [0x02#8] id id 0x8001#16 2 = true := by decide

/-- SY8. -/
theorem test_undocumented_lax_loads_nothing :
    goes [0xA7#8, 0x10#8]
      (fun s => put 0x0010#16 [0xFF#8] { s with a := 0x01#8, x := 0x02#8 })
      id
      0x8002#16 3 = true := by decide

/-- SY9. -/
theorem test_undocumented_absx_no_penalty :
    goes [0x1C#8, 0xFF#8, 0x10#8]
      (fun s => { s with x := 0x01#8 })
      id
      0x8003#16 4 = true := by decide

/-- SY11. -/
theorem test_clv :
    goes [0xB8#8]
      (fun s => { s with p := fl 0b010000#6 })
      (fun s => { s with p := fl 0b000000#6 })
      0x8001#16 2 = true := by decide

/-- SY12. -/
theorem test_cli :
    goes [0x58#8]
      (fun s => { s with p := fl 0b000100#6 })
      (fun s => { s with p := fl 0b000000#6 })
      0x8001#16 2 = true := by decide

/-- IN1. -/
theorem test_nmi_entry :
    goesFrom 0x8123#16 [0xEA#8]
      (fun s => put 0xFFFA#16 [0x00#8, 0xA0#8, 0x00#8, 0x80#8, 0x00#8, 0xB0#8] { s with p := fl 0b000011#6, nmiPending := true })
      (fun s => put 0x01FB#16 [0x23#8, 0x23#8, 0x81#8] { s with sp := 0xFA#8, p := fl 0b000111#6, nmiPending := false })
      0xA000#16 7 = true := by decide

/-- IN2. -/
theorem test_masked_irq_is_held :
    goes [0xEA#8]
      (fun s => { s with p := fl 0b000100#6, irqPending := true })
      id
      0x8001#16 2 = true := by decide

/-- IN2 with the policy drop. -/
theorem test_masked_irq_is_dropped :
    goes [0xEA#8]
      (fun s => { s with p := fl 0b000100#6, irqPending := true, cfg := { s.cfg with maskedIrqPolicy := .drop } })
      (fun s => { s with irqPending := false })
      0x8001#16 2 = true := by decide

/-- IN3, second step. -/
theorem test_irq_entry :
    goesFrom 0x8001#16 [0xEA#8]
      (fun s => put 0xFFFA#16 [0x00#8, 0xA0#8, 0x00#8, 0x80#8, 0x00#8, 0xB0#8] { s with irqPending := true })
      (fun s => put 0x01FB#16 [0x20#8, 0x01#8, 0x80#8] { s with sp := 0xFA#8, p := fl 0b000100#6, irqPending := false })
      0xB000#16 7 = true := by decide

/-- IN4. -/
theorem test_nmi_before_irq :
    goes [0xEA#8]
      (fun s => put 0xFFFA#16 [0x00#8, 0xA0#8, 0x00#8, 0x80#8, 0x00#8, 0xB0#8] { s with irqPending := true, nmiPending := true })
      (fun s => put 0x01FB#16 [0x20#8, 0x00#8, 0x80#8] { s with sp := 0xFA#8, p := fl 0b000100#6, nmiPending := false })
      0xA000#16 7 = true := by decide

/-- IN6, step 2. -/
theorem test_stall_step :
    goes [0xEA#8]
      (fun s => { s with cyclesToHalt := 513 })
      (fun s => { s with cyclesToHalt := 505 })
      0x8000#16 8 = true := by decide

/-- IN7, step 66: no interrupt is sampled in a stall. -/
theorem test_last_stall_step :
    goes [0xEA#8]
      (fun s => { s with cyclesToHalt := 1, nmiPending := true })
      (fun s => { s with cyclesToHalt := 0 })
      0x8000#16 1 = true := by decide

/-! ## The bus and the devices (spec/95_test_vectors.md sections 2.8 to 2.14) -/

/-- A machine reset on an image of `kprg` and `kchr` kilobytes of zero bytes. -/
def cart (m : MapperId) (kprg kchr : Nat) (mir : Mirroring) : State :=
  resetWith [] { onCart with rom := ⟨m, kprg * 1024, [], kchr * 1024, [], mir, false⟩ }

/-- The byte a read returns. -/
def valueAt (a : Word) (s : State) : Byte := (memRead a s).1

/-- MM1. -/
theorem test_ram_mirrors :
    let s := memWrite 0x1234#16 0x5A#8 onCart
    valueAt 0x0234#16 s = 0x5A#8 ∧ valueAt 0x0A34#16 s = 0x5A#8 ∧ valueAt 0x1A34#16 s = 0x5A#8 := by decide

/-- MM2. -/
theorem test_ppu_register_mirrors : memWrite 0x3456#16 0x1F#8 onCart = memWrite 0x2006#16 0x1F#8 onCart := by decide

/-- MM3. -/
theorem test_open_bus_reads :
    [0x4000#16, 0x4018#16, 0x5000#16].all (fun a => decide ((memRead a onCart).2 = { onCart with draws := 1 })) = true := by
  decide

/-- MM5, MM6. -/
theorem test_prg_ram_protection :
    let s := memWrite 0x6000#16 0x11#8 (cart .mmc3 128 128 .vertical)
    valueAt 0x6000#16 (memWrite 0x6000#16 0x77#8 (memWrite 0xA001#16 0xC0#8 s)) = 0x11#8 ∧
    (memRead 0x6000#16 (memWrite 0xA001#16 0x00#8 s)).2.draws = s.draws + 1 := by decide

/-- MM7, PP5: `$2002`. -/
theorem test_status_register :
    let s := { onCart with ppu := { onCart.ppu with vblank := true, spr0Hit := true, sprOverflow := true, w := true } }
    memWrite 0x2002#16 0xFF#8 s = s ∧ (memRead 0x2002#16 s).2.ppu = { s.ppu with vblank := false, w := false } := by decide

/-- PP5: the value read, its low five bits drawn. -/
theorem test_status_register_value :
    valueAt 0x2002#16 { onCart with ppu := { onCart.ppu with vblank := true, spr0Hit := true, sprOverflow := true } } =
      0b111#3 ++ (Config.openBus 0).extractLsb' 0 5 := rfl

/-- MM8: a 16 KB image is mirrored. -/
theorem test_nrom_16k_is_mirrored :
    let s := put 0x8123#16 [0x99#8] (cart .nrom 16 8 .vertical)
    valueAt 0x8123#16 s = 0x99#8 ∧ valueAt 0xC123#16 s = 0x99#8 := by decide

/-- PP1. -/
theorem test_scroll_and_address_writes :
    let s := writesAfter [(0x2000#16, 0x01#8), (0x2005#16, 0x7D#8), (0x2005#16, 0x5E#8)] onCart
    let t := writesAfter [(0x2006#16, 0x3D#8), (0x2006#16, 0xF0#8)] s
    s.ppu.t = 0x656F#15 ∧ s.ppu.fineX = 5#3 ∧ s.ppu.w = false ∧ t.ppu.t = 0x3DF0#15 ∧ t.ppu.v = 0x3DF0#15 := by decide

/-- PP2. -/
theorem test_data_port_is_buffered :
    let s := writesAfter [(0x2006#16, 0x21#8), (0x2006#16, 0x08#8)]
      { cart .nrom 32 8 .vertical with ppu := { Ppu.afterReset .vertical with nametableRam := [(0x108, 0xAA#8), (0x109, 0xBB#8)] } }
    let t := (memRead 0x2007#16 s).2
    valueAt 0x2007#16 s = 0x00#8 ∧ valueAt 0x2007#16 t = 0xAA#8 ∧ t.ppu.v = 0x2109#15 ∧
    (memRead 0x2007#16 t).2.ppu.readBuffer = 0xBB#8 := by decide

/-- PP3. -/
theorem test_palette_alias_and_read :
    let s := writesAfter [(0x2006#16, 0x3F#8), (0x2006#16, 0x10#8), (0x2007#16, 0x2D#8), (0x2006#16, 0x3F#8), (0x2006#16, 0x00#8)]
      onCart
    s.ppu.paletteRam = [(0, 0x2D#6)] ∧ (memRead 0x2007#16 s).2.ppu.v = 0x3F01#15 := by decide

/-- PP3: the palette entry is read at once, its high two bits drawn. -/
theorem test_palette_read_value :
    valueAt 0x2007#16 { onCart with ppu := { onCart.ppu with v := 0x3F00#15, paletteRam := [(0, 0x2D#6)] } } =
      (Config.openBus 0).extractLsb' 6 2 ++ 0x2D#6 := rfl

/-- PP4. -/
theorem test_data_port_steps_by_32 :
    let s := writesAfter [(0x2007#16, 0x55#8), (0x2007#16, 0x55#8)]
      { onCart with ppu := { onCart.ppu with v := 0x2000#15, ctrl := 0x04#8 } }
    s.ppu.nametableRam = [(0, 0x55#8), (0x20, 0x55#8)] ∧ s.ppu.v = 0x2040#15 := by decide

/-- PP6, PP7. -/
theorem test_oam_port :
    let s := writesAfter [(0x2003#16, 0xFE#8), (0x2004#16, 0x11#8), (0x2004#16, 0x22#8), (0x2004#16, 0x33#8)] onCart
    s.ppu.oam = [(0, 0x33#8), (0xFE, 0x11#8), (0xFF, 0x22#8)] ∧ s.ppu.oamAddr = 0x01#8 ∧
    valueAt 0x2004#16 { onCart with ppu := { onCart.ppu with oamAddr := 2#8, oam := [(2, 0xFF#8)] } } = 0xE3#8 := by decide

/-- PP8. -/
theorem test_nametable_mirroring :
    [Mirroring.horizontal, .vertical, .singleLower, .singleUpper, .fourScreen].map
        (fun m => [0x2400, 0x2800, 0x2C00].map (ntMap m)) =
      [[0, 0x400, 0x400], [0x400, 0, 0x400], [0, 0, 0], [0x400, 0x400, 0x400], [0x400, 0x800, 0xC00]] := by decide

/-- PP11: a write of PPUCTRL raises no NMI. -/
theorem test_ctrl_write_raises_no_nmi :
    let s := { onCart with ppu := { onCart.ppu with vblank := true } }
    memWrite 0x2000#16 0x80#8 s = { s with ppu := { s.ppu with ctrl := 0x80#8 } } := by decide

/-- PT4, PT5. -/
theorem test_sprite_zero_flag :
    let s := { onCart with ppu := { onCart.ppu with
      scanline := 51, curX := 100, spr0HitX := some 100, spr0HitY := some 30, mask := 0x10#8 } }
    (ppuDot s).2.ppu.spr0Hit = true ∧ (ppuDot { s with ppu := { s.ppu with curX := 99 } }).2.ppu.spr0Hit = false ∧
    (ppuDot { s with ppu := { s.ppu with mask := 0x00#8 } }).2.ppu.spr0Hit = false := by decide

/-- PT3: VBlank ends with scanline 19. -/
theorem test_vblank_ends :
    let s := { onCart with ppu := { onCart.ppu with scanline := 19, curX := 340, vblank := true } }
    (ppuDot s).2.ppu.vblank = false ∧ (ppuDot s).2.ppu.scanline = 20 ∧
    (ppuDot { s with ppu := { s.ppu with curX := 339 } }).2.ppu.vblank = true := by decide

/-- PR2, PR3: the background pixel. -/
theorem test_background_pixel :
    let s := { onCart with rom := { onCart.rom with chr := [(0x10, 0x80#8), (0x18, 0x80#8)] }, ppu := { onCart.ppu with
      mask := 0x0A#8, nametableRam := [(0, 1#8), (0x3C0, 3#8)] } }
    muxIndex (backgroundPixel s 0) none = 15 ∧ muxIndex (backgroundPixel s 1) none = 0 ∧
    muxIndex (backgroundPixel { s with ppu := { s.ppu with mask := 0x08#8 } } 0) none = 0 := by decide

/-- PR4, PR5. -/
theorem test_vertical_increment : verticalIncrement 0x73A0#15 = 0x0800#15 ∧ verticalIncrement 0x73E0#15 = 0x0000#15 := by decide

/-- PR6. -/
theorem test_sprite_range :
    let sprite : Sprite := ⟨0, 0x1D, 1, 0, 8⟩
    sprite.inRange 8 29 = false ∧ sprite.inRange 8 30 = true ∧ sprite.inRange 8 37 = true ∧ sprite.inRange 8 38 = false := by
  decide

/-- PR9. -/
theorem test_pixel_priority :
    muxIndex ⟨2, 1⟩ (some ⟨1, 2, true⟩) = 6 ∧ muxIndex ⟨2, 1⟩ (some ⟨1, 2, false⟩) = 0x19 := by decide

/-- AP1, AP2, AP3. -/
theorem test_length_counter :
    let s := writesAfter [(0x4015#16, 0x01#8), (0x4003#16, 0x08#8)] onCart
    s.apu.pulse1.length = 254 ∧ s.apu.statusByte 0x00#8 = 0x01#8 ∧
    (memWrite 0x4003#16 0x08#8 onCart).apu.pulse1.length = 0 ∧ (memWrite 0x4015#16 0x00#8 s).apu.pulse1.length = 0 := by decide

/-- AP4: the step at cycle 29,828 sets the flag, and the call requests. -/
theorem test_frame_irq :
    let s := { onCart with apu := { onCart.apu with seqStep := 3, seqCycles := 7456 } }
    (clockFrameCounter 1 s).apu.frameIrqFlag = true ∧ (clockFrameCounter 1 s).irqPending = true ∧
    (clockFrameCounter 1 { s with apu := { s.apu with seqCycles := 7455 } }).irqPending = false ∧
    (clockFrameCounter 1 { s with apu := { s.apu with irqInhibit := true } }).apu.frameIrqFlag = false := by decide

/-- AP6: a write of `$80` to `$4017` clocks at once. -/
theorem test_five_step_write_clocks_at_once :
    (memWrite 0x4017#16 0x80#8 { onCart with apu := { onCart.apu with
      pulse1 := { onCart.apu.pulse1 with length := 10 } } }).apu.pulse1.length = 9 := by decide

/-- AP8. -/
theorem test_apu_status_read :
    let s := { onCart with apu := { onCart.apu with frameIrqFlag := true, dmc := { onCart.apu.dmc with dmcIrqFlag := true } } }
    s.apu.statusByte 0x00#8 = 0xC0#8 ∧
    (memRead 0x4015#16 s).2.apu = { s.apu with frameIrqFlag := false } := by decide

/-- AP9 to AP13, as exact fractions of the given formulas. -/
theorem test_mixer :
    mixer 0 0 0 0 0 = ⟨0, 1⟩ ∧ (mixer 15 0 0 0 0).num * 962800 = (mixer 15 0 0 0 0).den * 143820 ∧
    (mixer 8 8 0 0 0).num * 972800 = (mixer 8 8 0 0 0).den * 153408 := by decide

/-- AP15: the first sample comes at cycle 41. -/
theorem test_sample_pacer :
    let s := { onCart with apu := { onCart.apu with sampleAcc := 40 * 44100 } }
    (apuCycles 1 s).samples.length = 1 ∧ (apuCycles 1 s).apu.sampleAcc = 18327 := by decide

/-- AP17. -/
theorem test_noise_shift : noiseShift false 1#15 = 0x4000#15 := by decide

/-- AP18, first clock. -/
theorem test_envelope :
    (Envelope.clock { Envelope.afterReset with volParam := 3#4, envStart := true }).envDecay = 15 ∧
    (Envelope.clock { Envelope.afterReset with volParam := 3#4, envDecay := 15 }).envDivider = 3 ∧
    (Envelope.clock { Envelope.afterReset with volParam := 3#4, envDecay := 15 }).envDecay = 14 := by decide

/-- AP19. -/
theorem test_sweep_target :
    let p := { onCart.apu.pulse1 with timerPeriod := 0x100#11, sweepShift := 1#3, sweepNegate := true }
    p.sweepTarget true = 0x7F ∧ p.sweepTarget false = 0x80 := by decide

/-- AP20. -/
theorem test_dmc_start :
    let s := writesAfter [(0x4012#16, 0x40#8), (0x4013#16, 0x01#8), (0x4015#16, 0x10#8)] onCart
    s.apu.dmc.curAddr = 0xD000#16 ∧ s.apu.dmc.bytesRemaining = 17 := by decide

/-- M1. -/
theorem test_mmc1_prg_bank :
    let s := writesAfter [(0xE000#16, 1#8), (0xE000#16, 0#8), (0xE000#16, 1#8), (0xE000#16, 0#8), (0xE000#16, 0#8)]
      (cart .mmc1 128 32 .vertical)
    s.mapper.prgWin.toList = [10, 11, 14, 15] := by decide

/-- M2: the fifth address selects. -/
theorem test_mmc1_fifth_address_selects :
    let s := writesAfter [(0x8000#16, 1#8), (0xA000#16, 1#8), (0xC000#16, 0#8), (0xE000#16, 0#8), (0xA000#16, 0#8)]
      (cart .mmc1 128 32 .vertical)
    s.mapper.chrWin.toList = [8, 9, 10, 11, 12, 13, 14, 15] := by decide

/-- M4: a fifth write with bit 7 set is a reset. -/
theorem test_mmc1_reset_write :
    let s := writesAfter [(0xE000#16, 1#8), (0xE000#16, 1#8), (0xE000#16, 1#8), (0xE000#16, 1#8), (0xE000#16, 0xFF#8)]
      (cart .mmc1 128 32 .vertical)
    s.mapper.prgWin.toList = [0, 1, 14, 15] := by decide

/-- M6, M7, M8. -/
theorem test_mmc3_banks :
    let s := writesAfter [(0x8000#16, 0x06#8), (0x8001#16, 0x05#8)] (cart .mmc3 128 128 .vertical)
    s.mapper.prgWin.toList = [5, 1, 14, 15] ∧ (memWrite 0x8000#16 0x46#8 s).mapper.prgWin.toList = [14, 1, 5, 15] ∧
    (writesAfter [(0x8000#16, 0xFA#8), (0x8001#16, 0x09#8)] (cart .mmc3 128 128 .vertical)).mapper.chrWin.toList =
      [9, 5, 6, 7, 0, 1, 2, 3] := by decide

/-- M10. -/
theorem test_mmc3_register_decode : [0x9FFF#16, 0xBFFE#16, 0xDFFF#16, 0xFFFE#16].map mmc3Register = [1, 2, 5, 6] := by decide

/-- M11. -/
theorem test_mmc3_mirroring :
    (memWrite 0xA000#16 0x01#8 (cart .mmc3 128 128 .vertical)).ppu.mirroring = .horizontal ∧
    (memWrite 0xA000#16 0x01#8 (cart .mmc3 128 128 .fourScreen)).ppu.mirroring = .fourScreen := by decide

/-- M12: one request, at the 21st clock. -/
theorem test_mmc3_irq :
    let s := writesAfter [(0xC000#16, 0x14#8), (0xC001#16, 0x00#8), (0xE001#16, 0x00#8)] (cart .mmc3 128 128 .vertical)
    (clocksAfter 20 s).irqPending = false ∧ (clocksAfter 21 s).irqPending = true := by decide

/-- M14, M15. -/
theorem test_mapper_writes_without_effect :
    (memWrite 0xE000#16 0x00#8 { cart .mmc3 128 128 .vertical with irqPending := true }).irqPending = true ∧
    memWrite 0x8000#16 0xFF#8 onCart = onCart := by decide

/-- 52_mappers R423 and the cells of 50_ppu R311: pattern RAM through the windows (the upper and lower 4 KB swapped), and not. -/
theorem test_pattern_ram :
    let s := cart .mmc1 128 0 .vertical
    let swapped := { s with mapper := { s.mapper with chrWin := #v[4, 5, 6, 7, 0, 1, 2, 3] } }
    let direct := { swapped with cfg := { swapped.cfg with patternRam := .direct } }
    (chrWrite swapped 0x0012 0x5A#8).mapper.chrRam = [(0x1012, 0x5A#8)] ∧
    (chrWrite direct 0x0012 0x5A#8).mapper.chrRam = [(0x0012, 0x5A#8)] ∧
    chrRead (chrWrite direct 0x0012 0x5A#8) 0x0012 = 0x5A#8 ∧ chrRead (chrWrite swapped 0x0012 0x5A#8) 0x1012 = 0x00#8 := by decide

/-- O2, O3. -/
theorem test_controller_reads :
    let s := writesAfter [(0x4016#16, 1#8), (0x4016#16, 0#8)] { onCart with inputs := { onCart.inputs with buttons0 := 0x89#8 } }
    [0, 1, 2, 3, 7, 8].map (fun k => (shiftController s.strobe (readsAfter 0x4016#16 k s).ctrlShift0 s.inputs.buttons0).1) =
      [true, false, false, true, true, true] ∧
    (memRead 0x4016#16 (memWrite 0x4016#16 1#8 { onCart with inputs := { onCart.inputs with buttons0 := 0x02#8 } })).2.ctrlShift0 =
      0x81#8 := by decide

/-- O2, first read: bits 7 to 5 are drawn. -/
theorem test_controller_read_value :
    valueAt 0x4016#16 { onCart with ctrlShift0 := 0x89#8 } = (Config.openBus 0).extractLsb' 5 3 ++ 0#4 ++ BitVec.ofBool true := rfl

/-- 53_orchestrator R500: under a raised strobe the shift registers follow the buttons the host sets; else they do not. -/
theorem test_shift_registers_follow_buttons :
    let i := { Inputs.default with buttons0 := 0x81#8, buttons1 := 0x42#8 }
    ((setInputs i { onCart with strobe := true }).map fun s => (s.ctrlShift0, s.ctrlShift1)).toOption = some (0x81#8, 0x42#8) ∧
    ((setInputs i onCart).map fun s => (s.ctrlShift0, s.ctrlShift1)).toOption = some (0x00#8, 0x00#8) := by decide

/-- 53_orchestrator R481: the example formula, and one over a register. -/
theorem test_break_formulas :
    let atDot := fun x : Nat => { onCart with a := 0x80#8, ppu := { onCart.ppu with scanline := 100, curX := x } }
    let example1 : BreakCond := .both (.equals .scanline 100) (.equals .curX 0)
    breakHolds (atDot 0) example1 = true ∧ breakHolds (atDot 1) example1 = false ∧
    breakHolds (atDot 1) (.both (.bit .a 7) (.negate (.less .a 128))) = true := by decide

/-- O4, the light not decided: bit 4 is the trigger, bit 3 is 0 when light is seen. -/
theorem test_zapper_bits :
    zapperBits { onCart with inputs := { onCart.inputs with zapper := some ⟨10, 20, true⟩ } } =
      BitVec.ofBool true ++ BitVec.ofBool (!Config.light 0 10 20) ∧ zapperBits onCart = 0#2 := ⟨rfl, rfl⟩

/-- O7, O8. -/
theorem test_refused_operations :
    (match step { onCart with runState := .unloaded } with
      | .next _    => false
      | .fault _   => false
      | .refused r => r == .frameWhileUnloaded) = true ∧
    (fromJson (capture (cart .mmc1 128 32 .vertical)) (cart .mmc3 128 128 .vertical)).toOption = none := by decide

/-- RS1. -/
theorem test_reset_vector :
    let s := resetWith [] (put 0xFFFC#16 [0x34#8, 0x92#8] onCart)
    s.pc = 0x9234#16 ∧ s.sp = 0xFD#8 ∧ s.p = fl 0b000100#6 := by decide

/-- RS2, RS3. -/
theorem test_reset_windows :
    (cart .mmc1 256 8 .vertical).mapper.prgWin.toList = [0, 1, 30, 31] ∧
    (cart .mmc3 512 8 .vertical).mapper.prgWin.toList = [0, 1, 62, 63] := by decide

/-- RS4. -/
theorem test_battery_ram_survives_reset :
    let s := memWrite 0x6000#16 0x5A#8 { onCart with rom := { onCart.rom with battery := true } }
    (performReset s).mapper.prgRam = [(0, 0x5A#8)] ∧
    (performReset { s with rom := { s.rom with battery := false } }).mapper.prgRam = [] := by decide

theorem test_reset_memories_are_canonical : State.reset.canonical = true := by decide

/-- `withFetchWord` places the word where the step fetches: TAX runs first after reset. -/
theorem test_withFetchWord_places_the_word :
    let s := { (State.reset.withFetchWord 8 0xAA) with a := 0x80#8, inFrame := true }
    (match emulate s with
      | .next t    => decide (t.x = 0x80#8 ∧ t.pc = 0x0001#16)
      | .fault _   => false
      | .refused _ => false) = true := by decide

/-! ## Witnesses: for every obligation with hypotheses, states and operands that meet them, clause by clause -/

/-- A machine in the middle of a frame call, with bytes at PC. -/
def inCall (bytes : List Byte) : State := put 0x8000#16 bytes { onCart with inFrame := true }

/-- An MMC1 machine with an empty serial port. -/
def onMmc1 : State := cart .mmc1 128 32 .vertical

/-- An MMC3 machine. -/
def onMmc3 : State := cart .mmc3 128 128 .vertical

theorem test_witness_DecodeOfEncode :
    (Instr.incAbsx 0x02FF#16).wellFormed = true ∧ (Instr.nopStarZp 0x04#8 0x10#8).wellFormed = true ∧
    (Instr.nopStarImp 0x02#8).wellFormed = true := by decide

theorem test_witness_CyclesMatchOpcodeTable :
    ((Instr.bne 0xFB#8).wellFormed = true ∧ (Instr.bne 0xFB#8).row.mode = .rel ∧ ∃ t, exec (.bne 0xFB#8) onCart = .next t) ∧
    (Instr.ldaAbsx 0x12F0#16).wellFormed = true ∧ (Instr.ldaAbsx 0x12F0#16).row.mode ≠ .rel ∧
    ∃ t, exec (.ldaAbsx 0x12F0#16) { onCart with x := 0x20#8 } = .next t :=
  ⟨⟨by decide, by decide, _, rfl⟩, by decide, by decide, _, rfl⟩

/-- Within a frame call, for lengths 1, 2 and 3. -/
theorem test_witness_StepRunsDecodedInstruction :
    [([0xAA#8], Instr.tax, [0x00#8, 0x00#8]), ([0xA9#8, 0x05#8], .ldaImm 0x05#8, [0x00#8]),
      ([0x8D#8, 0x10#8, 0x03#8], .staAbs 0x0310#16, [])].all (fun w : List Byte × Instr × List Byte =>
        let s := inCall w.1
        let r0 := memRead s.pc s
        let r1 := memRead (s.pc + 1) r0.2
        let r2 := memRead (s.pc + 2) r1.2
        decide (s.runState = .running ∧ s.inFrame = true ∧ s.cyclesToHalt = 0 ∧ s.resetMark = false ∧ s.nmiPending = false ∧
          s.irqPending = false) &&
        decide ((decode [r0.1, r1.1, r2.1]).toOption = some w.2)) = true := by decide

/-- At the start of a frame call: the first step after reset. -/
theorem test_witness_StepRunsDecodedInstruction_at_frame_start :
    let s := State.reset
    let s0 := beginFrame s
    s.runState = .running ∧ s.cyclesToHalt = 0 ∧ s.resetMark = false ∧ s.nmiPending = false ∧ s.irqPending = false ∧
    s0 = (if s.inFrame then s else beginFrame s) ∧
    (decode [(memRead s0.pc s0).1, (memRead (s0.pc + 1) s0).1, (memRead (s0.pc + 2) s0).1]).toOption =
      some (.brk, [0x00#8, 0x00#8]) := by decide

theorem test_witness_StepGoesOn :
    (State.reset.runState = .running ∧ State.reset.cfg.illegalPolicy = .nop) ∧
    { State.reset with runState := .midFrameBreak }.runState = RunState.midFrameBreak := by decide

/-- Also the premises of the three invariants, whose one more hypothesis the reset state meets. -/
theorem test_witness_ParametersNeverChange :
    (∃ t, step { State.reset with runState := .midFrameBreak } = .next t) ∧
    { State.reset with runState := .midFrameBreak }.canonical = true ∧
    { State.reset with runState := .midFrameBreak }.rasterOk = true ∧
    { State.reset with runState := .midFrameBreak }.windowsOk = true :=
  ⟨⟨_, rfl⟩, by decide, by decide, by decide⟩

theorem test_witness_MemoriesStayCanonical : ∃ s t : State, s.canonical = true ∧ step s = .next t :=
  ⟨{ State.reset with runState := .midFrameBreak }, _, by decide, rfl⟩

theorem test_witness_RasterStaysInFrame : ∃ s t : State, s.rasterOk = true ∧ step s = .next t :=
  ⟨{ State.reset with runState := .midFrameBreak, breakpointCycles := 1, ppu := { State.reset.ppu with scanline := 261, curX := 340 } },
    _, by decide, rfl⟩

theorem test_witness_WindowsStayInImage : ∃ s t : State, s.windowsOk = true ∧ step s = .next t :=
  ⟨{ State.reset with runState := .midFrameBreak }, _, by decide, rfl⟩

/-- 64 chunks and 1; no chunk and a whole one. -/
theorem test_witness_StallConsumedInChunks :
    (0 < 1 ∧ 1 ≤ onCart.cfg.stallChunk ∧ { onCart with cyclesToHalt := 513 }.cyclesToHalt = 64 * onCart.cfg.stallChunk + 1) ∧
    0 < 8 ∧ 8 ≤ onCart.cfg.stallChunk ∧ { onCart with cyclesToHalt := 8 }.cyclesToHalt = 0 * onCart.cfg.stallChunk + 8 := by
  decide

/-- Also of the first clause of RtiUndoesEntry. -/
theorem test_witness_NmiEntry :
    let s := { onCart with nmiPending := true }
    s.cyclesToHalt = 0 ∧ s.resetMark = false ∧ s.nmiPending = true := by decide

/-- Both clauses; with I = 0 also of the IRQ case of RtiUndoesEntry. -/
theorem test_witness_IrqTakenOrMasked :
    let s := { onCart with irqPending := true }
    s.cyclesToHalt = 0 ∧ s.resetMark = false ∧ s.nmiPending = false ∧ s.irqPending = true ∧ s.p.i = false ∧
    { s with p := fl 0b000100#6 }.p.i = true := by decide

/-- Every mapper. -/
theorem test_witness_MarkedResetFirst :
    let marked := fun s : State => { s with resetMark := true, nmiPending := true, irqPending := true }
    (marked onCart).cyclesToHalt = 0 ∧ (marked onCart).resetMark = true ∧ (marked onCart).rom.mapperId = .nrom ∧
    (marked onMmc1).cyclesToHalt = 0 ∧ (marked onMmc1).resetMark = true ∧ (marked onMmc1).rom.mapperId = .mmc1 ∧
    (marked onMmc1).rom.wellFormed = true ∧
    (marked onMmc3).cyclesToHalt = 0 ∧ (marked onMmc3).resetMark = true ∧ (marked onMmc3).rom.mapperId = .mmc3 ∧
    (marked onMmc3).rom.wellFormed = true := by decide

/-- AddressingModes: an operand that is no immediate. -/
theorem test_witness_AddressingModes : ∃ o : Operand, ∀ b, o ≠ .imm b := ⟨.zp 0#8, by intro b h; cases h⟩

theorem test_witness_LoadsLoad :
    loadForm (.ldaImm 1#8) = some (.a, ⟨0xA9#8, .imm 1#8, 2, false⟩) ∧
    loadForm (.ldxAbsy 0x0300#16) = some (.x, ⟨0xBE#8, .absy 0x0300#16, 4, true⟩) ∧
    loadForm (.ldyZpx 0xFF#8) = some (.y, ⟨0xB4#8, .zpx 0xFF#8, 4, false⟩) := by decide

theorem test_witness_StoresStore :
    storeForm (.staIndy 0xFF#8) = some (.a, ⟨0x91#8, .indy 0xFF#8, 6, false⟩) ∧
    storeForm (.stxZpy 0x10#8) = some (.x, ⟨0x96#8, .zpy 0x10#8, 4, false⟩) ∧
    storeForm (.styAbs 0x2006#16) = some (.y, ⟨0x8C#8, .abs 0x2006#16, 4, false⟩) := by decide

theorem test_witness_TransfersMove :
    transferForm .tax = some (.a, .x, 0xAA#8) ∧ transferForm .txs = some (.x, .sp, 0x9A#8) := by decide

theorem test_witness_AluComputes :
    aluForm (.adcIndx 0xF0#8) = some (.adc, ⟨0x61#8, .indx 0xF0#8, 6, false⟩) ∧
    aluForm (.sbcImm 0x80#8) = some (.sbc, ⟨0xE9#8, .imm 0x80#8, 2, false⟩) ∧
    aluForm (.andZp 0#8) = some (.and, ⟨0x25#8, .zp 0#8, 3, false⟩) ∧
    aluForm (.oraAbs 0#16) = some (.ora, ⟨0x0D#8, .abs 0#16, 4, false⟩) ∧
    aluForm (.eorAbsx 0xFFFF#16) = some (.eor, ⟨0x5D#8, .absx 0xFFFF#16, 4, true⟩) := by decide

/-- Both clauses. -/
theorem test_witness_ComparesAndBitTest :
    compareForm (.cmpIndy 0xFF#8) = some (.a, ⟨0xD1#8, .indy 0xFF#8, 5, true⟩) ∧
    compareForm (.cpxImm 0x08#8) = some (.x, ⟨0xE0#8, .imm 0x08#8, 2, false⟩) ∧
    bitForm (.bitAbs 0x0300#16) = some ⟨0x2C#8, .abs 0x0300#16, 4, false⟩ := by decide

theorem test_witness_ModifiesModify :
    modifyForm (.aslAbs 0x8000#16) = some (.asl, ⟨0x0E#8, .abs 0x8000#16, 6, false⟩) ∧
    modifyForm (.rorZpx 0xFF#8) = some (.ror, ⟨0x76#8, .zpx 0xFF#8, 6, false⟩) ∧
    modifyForm (.decAbsx 0x02FF#16) = some (.dec, ⟨0xDE#8, .absx 0x02FF#16, 7, false⟩) := by decide

theorem test_witness_AccumulatorShifts :
    accumulatorForm .aslAcc = some (.asl, 0x0A#8) ∧ accumulatorForm .rorAcc = some (.ror, 0x6A#8) := by decide

theorem test_witness_CountsCount :
    countForm .inx = some (.x, 1#8, 0xE8#8) ∧ countForm .dey = some (.y, 0xFF#8, 0x88#8) := by decide

/-- Taken and not taken. -/
theorem test_witness_BranchesBranch :
    (∃ cond, branchForm (.bne 0x80#8) = some (cond, 0x80#8, 0xD0#8) ∧ cond onCart.p = true) ∧
    ∃ cond, branchForm (.beq 0x7F#8) = some (cond, 0x7F#8, 0xF0#8) ∧ cond onCart.p = false :=
  ⟨⟨_, rfl, rfl⟩, _, rfl, rfl⟩

theorem test_witness_FlagInstructions : (flagForm .sed).isSome = true ∧ (flagForm .clv).isSome = true := by decide

/-- Both policies. -/
theorem test_witness_NoOperations :
    undocumentedForm (.nopStarAbsx 0x1C#8 0x10FF#16) = some (0x1C#8, 4) ∧ onCart.cfg.illegalPolicy = .nop ∧
    { onCart.cfg with illegalPolicy := .refuse }.illegalPolicy = IllegalPolicy.refuse := by decide

/-- Every clause: an instruction that writes none of X, Y, S, PC, I, D, and one that writes none of A, N, Z, C, V. -/
theorem test_witness_RegisterFrame :
    ((∃ t, exec (.adcImm 1#8) onCart = .next t) ∧ writesX (.adcImm 1#8) = false ∧ writesY (.adcImm 1#8) = false ∧
      writesS (.adcImm 1#8) = false ∧ writesPc (.adcImm 1#8) = false ∧ writesI (.adcImm 1#8) = false ∧
      writesD (.adcImm 1#8) = false) ∧
    (∃ t, exec .txs onCart = .next t) ∧ writesA .txs = false ∧ writesNZ .txs = false ∧ writesC .txs = false ∧
    writesV .txs = false :=
  ⟨⟨⟨_, rfl⟩, by decide, by decide, by decide, by decide, by decide, by decide⟩, ⟨_, rfl⟩, by decide, by decide, by decide,
    by decide⟩

theorem test_witness_NonStoringFrame :
    storesToMemory (.ldaAbs 0x2002#16) = false ∧ ∃ t, exec (.ldaAbs 0x2002#16) onCart = .next t := ⟨by decide, _, rfl⟩

/-- A store and a read-modify-write; targets inside and outside each kind of memory. -/
theorem test_witness_StoreFrame :
    (storeForm (.staAbs 0x1FFF#16) = some (.a, ⟨0x8D#8, .abs 0x1FFF#16, 4, false⟩) ∧
      ∃ t, exec (.staAbs 0x1FFF#16) onCart = .next t) ∧
    (modifyForm (.incAbs 0x6000#16) = some (.inc, ⟨0xEE#8, .abs 0x6000#16, 6, false⟩) ∧
      ∃ t, exec (.incAbs 0x6000#16) onCart = .next t) ∧
    busTarget 0x1FFF#16 = .ram 0x7FF ∧ busTarget 0x6000#16 = .cartRam 0 ∧ busTarget 0x3FFF#16 = .ppuReg 7 ∧
    busTarget 0x4014#16 = .oamDma ∧ busTarget 0x8000#16 = .prg :=
  ⟨⟨by decide, _, rfl⟩, ⟨by decide, _, rfl⟩, by decide, by decide, by decide, by decide, by decide⟩

theorem test_witness_RamIsMirrored : (0x1FFF#16).toNat < 0x2000 ∧ (0x0000#16).toNat < 0x2000 := by decide

/-- Each range at both ends. -/
theorem test_witness_OpenBusReads :
    isPpuRegister 0x2000#16 0 ∧ isPpuRegister 0x3FFE#16 6 ∧ (6 ≠ 2 ∧ 6 ≠ 4 ∧ 6 ≠ 7) ∧
    (0x4000 ≤ (0x4000#16).toNat ∧ (0x4014#16).toNat ≤ 0x4014) ∧
    0x4018 ≤ (0x4018#16).toNat ∧ (0x5FFF#16).toNat < 0x6000 := by
  unfold isPpuRegister
  decide

/-- An address under no clause that reads, at the edges. -/
theorem test_witness_OtherReadsChangeNothing :
    [0x0000#16, 0x2004#16, 0x3FFC#16, 0x4014#16, 0x4018#16, 0xFFFF#16].all (fun a : Word =>
      decide (¬ (0x2000 ≤ a.toNat ∧ a.toNat < 0x4000 ∧ a.toNat % 8 = 2) ∧ ¬ (0x2000 ≤ a.toNat ∧ a.toNat < 0x4000 ∧ a.toNat % 8 = 7) ∧
        a ≠ 0x4015#16 ∧ a ≠ 0x4016#16 ∧ a ≠ 0x4017#16)) = true := by decide

theorem test_witness_RomWritesChangeNoMemory :
    0x8000 ≤ (0x8000#16).toNat ∧ 0x8000 ≤ (0xFFFF#16).toNat ∧ onCart.mapper.regs = .nrom := by decide

theorem test_witness_SpriteDmaCopies : (0x00#8).toNat < 0x20 ∧ (0x1F#8).toNat < 0x20 := by decide

theorem test_witness_StatusRegister : isPpuRegister 0x2002#16 2 ∧ isPpuRegister 0x3FFA#16 2 := by
  unfold isPpuRegister
  decide

/-- Four clauses: each register under both values of the toggle. -/
theorem test_witness_ScrollAndAddressWrites :
    isPpuRegister 0x2005#16 5 ∧ isPpuRegister 0x3FFD#16 5 ∧ isPpuRegister 0x2006#16 6 ∧ isPpuRegister 0x3FFE#16 6 ∧
    onCart.ppu.w = false ∧ { onCart.ppu with w := true }.w = true := by
  unfold isPpuRegister
  decide

/-- Both clauses, at the boundary. -/
theorem test_witness_DataPort :
    isPpuRegister 0x2007#16 7 ∧ isPpuRegister 0x3FFF#16 7 ∧ (0x3EFF#15).toNat % 0x4000 < 0x3F00 ∧
    0x3F00 ≤ (0x3F00#15).toNat % 0x4000 ∧ (0x4000#15).toNat % 0x4000 < 0x3F00 ∧ 0x3F00 ≤ (0x7FFF#15).toNat % 0x4000 := by
  unfold isPpuRegister
  decide

/-- The debounce of a VBlank start, and a counter of one at the last dot of a scanline. -/
theorem test_witness_NmiDebounce :
    (let p := { onCart.ppu with requestEndFrame := true, nmiCounter := 9 }
     p.requestEndFrame = true ∧ p.nmiCounter = 8 + 1 ∧ p.curX + 8 < 341) ∧
    (let p := { onCart.ppu with requestEndFrame := true, nmiCounter := 1, curX := 340 }
     p.requestEndFrame = true ∧ p.nmiCounter = 0 + 1 ∧ p.curX + 0 < 341) := by decide

/-- The defaults, and the two ends of the range of the delay. -/
theorem test_witness_FrameLength :
    let ok := fun s : State =>
      decide (0 < s.cfg.scanlinesPerFrame ∧ s.cfg.oddFrameSkip = false ∧ 1 ≤ s.cfg.nmiDelayDots ∧
        s.cfg.nmiDelayDots ≤ s.cfg.scanlinesPerFrame * 341 ∧ s.ppu.scanline = 0 ∧ s.ppu.curX = 0 ∧ s.ppu.requestEndFrame = false)
    ok State.reset = true ∧ ok { State.reset with cfg := { Config.default with nmiDelayDots := 1 } } = true ∧
    ok { State.reset with cfg := { Config.default with scanlinesPerFrame := 1, nmiDelayDots := 341 } } = true := by decide

/-- The flag rises (PT4); the flag falls at the last dot of scanline 19. -/
theorem test_witness_SpriteZeroFlag :
    let s := { onCart with ppu := { onCart.ppu with spr0Hit := true, scanline := 19, curX := 340 } }
    s.ppu.spr0Hit = true ∧ (ppuDot s).2.ppu.spr0Hit = false := by decide

theorem test_witness_SequencerPeriod : onCart.cfg.frameSeqPeriod = 7456 + 1 ∧ onCart.apu.seqCycles = 0 := by decide

theorem test_witness_SampleCount :
    onCart.inputs.soundEnabled = true ∧ onCart.cfg.sampleRate ≤ onCart.cfg.cpuHz ∧ onCart.apu.sampleAcc < onCart.cfg.cpuHz := by
  decide

/-- The port is empty after reset; the fifth address at both ends of each of the four ranges. -/
theorem test_witness_Mmc1SerialLoad :
    onMmc1.mapper.regs = .mmc1 Mmc1.powerOn ∧ Mmc1.powerOn.shiftReg = 0#5 ∧ Mmc1.powerOn.shiftCount = 0 ∧
    0x8000 ≤ (0x8000#16).toNat ∧ (0x9FFF#16).toNat < 0xA000 ∧ 0xA000 ≤ (0xA000#16).toNat ∧ (0xBFFF#16).toNat < 0xC000 ∧
    0xC000 ≤ (0xC000#16).toNat ∧ (0xDFFF#16).toNat < 0xE000 ∧ 0xE000 ≤ (0xFFFF#16).toNat ∧
    (0x7F#8).getLsbD 7 = false ∧ (0x00#8).getLsbD 7 = false := by decide

theorem test_witness_Mmc1ResetWrite :
    onMmc1.mapper.regs = .mmc1 Mmc1.powerOn ∧ 0x8000 ≤ (0xFFFF#16).toNat ∧ (0x80#8).getLsbD 7 = true := by decide

theorem test_witness_Mmc3BankData :
    onMmc3.mapper.regs = .mmc3 Mmc3.powerOn ∧ 0x8000 ≤ (0x8000#16).toNat ∧ (0x9FFE#16).toNat < 0xA000 ∧
    (0x9FFE#16).toNat % 2 = 0 ∧ 0x8000 ≤ (0x8001#16).toNat ∧ (0x9FFF#16).toNat < 0xA000 ∧ (0x9FFF#16).toNat % 2 = 1 := by decide

/-- The clock that reaches 0, and the first clock. -/
theorem test_witness_Mmc3CounterRequestsOnce :
    let r := { Mmc3.powerOn with irqLatchValue := 0x14#8, irqReload := true, irqEnable := true }
    { onMmc3 with mapper := { onMmc3.mapper with regs := .mmc3 r } }.mapper.regs = .mmc3 r ∧ r.irqReload = true ∧
    r.irqEnable = true ∧ 20 ≤ r.irqLatchValue.toNat ∧ 0 ≤ r.irqLatchValue.toNat := by decide

theorem test_witness_ControllerReads : (0x01#8).getLsbD 0 = true ∧ (0xFE#8).getLsbD 0 = false := by decide

/-- A break after the first of two dots. -/
theorem test_witness_ResumeIsExact :
    let s := { onCart with inFrame := true, inputs := { onCart.inputs with brk := .equals .curX 1 } }
    s.runState = .running ∧ s.inFrame = true ∧ s.breakpointCycles = 0 ∧ (runDots 2 s).runState = .midFrameBreak ∧
    (runDots 2 s).breakpointCycles = 1 := by decide

theorem test_witness_SavestateRoundTrip :
    State.reset.inFrame = false ∧ State.reset.runState ≠ .unloaded ∧ onCart.inFrame = false ∧ onCart.runState ≠ .unloaded ∧
    State.reset.mapper.regs.tag = onCart.rom.mapperId ∧ (capture State.reset).lengthsFit onCart.rom = true := by decide

/-- Running and at a break. -/
theorem test_witness_FrameCallEnds :
    let s := State.reset
    (s.runState = .running ∨ s.runState = .midFrameBreak) ∧ s.cfg.illegalPolicy = .nop ∧ s.rasterOk = true ∧
    0 < s.cfg.stallChunk ∧ s.cfg.nmiDelayDots < s.cfg.scanlinesPerFrame * 341 ∧
    { s with runState := .midFrameBreak }.rasterOk = true := by decide

end Sys2Proof.Tests
end

section
/-! SUPPORT. A dot of the PPU changes no memory, a reset gives canonical memories, so every step keeps the canonical form
(10_state R33; log 3); and no step changes a parameter, the ROM image or the inputs (10_state R21). -/

namespace Sys2Proof.Machine

/-- Two PPU states agree on OAM, nametable RAM and palette RAM. -/
def SamePpuMemories (u v : Ppu) : Prop :=
  v.oam = u.oam ∧ v.nametableRam = u.nametableRam ∧ v.paletteRam = u.paletteRam

theorem samePpuMemories_refl (u : Ppu) : SamePpuMemories u u := ⟨rfl, rfl, rfl⟩

theorem samePpuMemories_trans {u v w : Ppu} (h : SamePpuMemories u v) (k : SamePpuMemories v w) : SamePpuMemories u w := by
  obtain ⟨ho, hn, hp⟩ := h
  obtain ⟨ko, kn, kp⟩ := k
  exact ⟨ko.trans ho, kn.trans hn, kp.trans hp⟩

theorem sprite0Dot_memories (u : Ppu) : SamePpuMemories u u.sprite0Dot := by
  unfold Ppu.sprite0Dot
  split <;> exact ⟨rfl, rfl, rfl⟩

theorem recordSprite0_memories (u : Ppu) (y : Nat) (c : Option Nat) : SamePpuMemories u (u.recordSprite0 y c) := by
  cases c <;> exact ⟨rfl, rfl, rfl⟩

/-- Rendering a line fills the frame buffer and moves the scroll registers; it stores in no PPU memory. -/
theorem renderLine_memories (y : Nat) (s : State) : SamePpuMemories s.ppu (renderLine y s).ppu := by
  unfold renderLine
  split
  · exact recordSprite0_memories _ _ _
  · exact samePpuMemories_refl _

theorem verticalReload_memories (s : State) : SamePpuMemories s.ppu (verticalReload s).ppu := by
  unfold verticalReload
  split <;> exact ⟨rfl, rfl, rfl⟩

/-- The line rendered after the mapper's scanline clock. -/
theorem renderLine_scanlineClock_memories (y : Nat) (s : State) :
    SamePpuMemories s.ppu (renderLine y (scanlineClock s)).ppu := by
  simpa only [scanlineClock_ppu] using renderLine_memories y (scanlineClock s)

theorem endScanline_memories (s : State) : SamePpuMemories s.ppu (endScanline s).ppu := by
  unfold endScanline
  dsimp only
  split
  · exact ⟨rfl, rfl, rfl⟩
  · split
    · exact ⟨rfl, rfl, rfl⟩
    · split
      · exact samePpuMemories_trans (verticalReload_memories s) (renderLine_scanlineClock_memories 0 _)
      · split
        · exact renderLine_scanlineClock_memories _ s
        · exact samePpuMemories_refl _

theorem advanceDot_memories (s : State) : SamePpuMemories s.ppu (advanceDot s).ppu := by
  unfold advanceDot
  split
  · exact endScanline_memories { s with ppu := { s.ppu with curX := 0 } }
  · exact ⟨rfl, rfl, rfl⟩

theorem startVBlank_memories (s : State) : SamePpuMemories s.ppu (startVBlank s).ppu := by
  unfold startVBlank
  split <;> exact ⟨rfl, rfl, rfl⟩

/-- A dot stores in no PPU memory. -/
theorem ppuDot_memories (s : State) : SamePpuMemories s.ppu (ppuDot s).2.ppu := by
  refine samePpuMemories_trans (sprite0Dot_memories s.ppu) ?_
  unfold ppuDot
  dsimp only
  split
  · split
    · exact startVBlank_memories _
    · exact advanceDot_memories { s with ppu := { s.ppu.sprite0Dot with nmiCounter := s.ppu.sprite0Dot.nmiCounter - 1 } }
  · exact advanceDot_memories { s with ppu := s.ppu.sprite0Dot }

/-- An update that is no bus write, no dot and no reset keeps the canonical form. -/
theorem canonical_of_ownEffects {s t : State} (e : OnlyOwnEffects s t) (h : Canonical s) : Canonical t := by
  rw [e]
  exact ⟨h.ram, h.prgRam, h.chrRam, h.oam, h.nametableRam, h.paletteRam, h.ramInit, h.prgRamInit, h.prg, h.chr⟩

/-- A dot keeps the canonical form: it changes no memory at all. -/
theorem ppuDot_canonical (s : State) (h : Canonical s) : Canonical (ppuDot s).2 := by
  obtain ⟨hoam, hnt, hpal⟩ := ppuDot_memories s
  rw [ppuDot_effects s]
  exact ⟨h.ram, h.prgRam, h.chrRam, hoam ▸ h.oam, hnt ▸ h.nametableRam, hpal ▸ h.paletteRam, h.ramInit, h.prgRamInit,
    h.prg, h.chr⟩

@[simp] theorem powerOn_prgRam (rom : RomImage) (m : Memory) : (Mapper.powerOn rom m).prgRam = m := by
  unfold Mapper.powerOn
  split <;> rfl

@[simp] theorem powerOn_chrRam (rom : RomImage) (m : Memory) : (Mapper.powerOn rom m).chrRam = [] := by
  unfold Mapper.powerOn
  split <;> rfl

/-- A reset over canonical cartridge RAM leaves every memory canonical: RAM is `RAM_INIT`, pattern RAM and the PPU's memories
are empty. -/
theorem resetWith_canonical (m : Memory) (hm : Memory.wf m = true) (s : State) (h : Canonical s) :
    Canonical (resetWith m s) := by
  rw [resetWith_eq]
  have hchr : Memory.wf (Mapper.powerOn s.rom m).chrRam = true := by rw [powerOn_chrRam]; rfl
  have hprg : Memory.wf (Mapper.powerOn s.rom m).prgRam = true := by rwa [powerOn_prgRam]
  exact ⟨h.ramInit, hprg, hchr, rfl, rfl, rfl, h.ramInit, h.prgRamInit, h.prg, h.chr⟩

theorem performReset_canonical (s : State) (h : Canonical s) : Canonical (performReset s) := by
  refine resetWith_canonical _ ?_ s h
  split
  · exact h.prgRam
  · exact h.prgRamInit

/-- Every part of a step keeps the canonical form. -/
theorem keeps_canonical : Keeps Canonical where
  own   := canonical_of_ownEffects
  write := memWrite_canonical
  dot   := ppuDot_canonical
  start := fun _ h =>
    ⟨h.ram, h.prgRam, h.chrRam, h.oam, h.nametableRam, h.paletteRam, h.ramInit, h.prgRamInit, h.prg, h.chr⟩
  reset := performReset_canonical

/-- Settles O53: the canonical form is kept by every part of a step, so by every step. -/
theorem memoriesStayCanonical : Obligations.MemoriesStayCanonical := by
  intro s t hs h
  exact (canonical_iff t).2 (keeps_step keeps_canonical s t h ((canonical_iff s).1 hs))

theorem resumeFrame_parameters (s : State) : SameParameters s (resumeFrame s) :=
  runDots_parameters _ { s with breakpointCycles := 0, runState := .running, inFrame := true }

/-- Settles O7: a resume, the start of a frame, a CPU step and the devices each leave the parameters alone. -/
theorem parametersNeverChange : Obligations.ParametersNeverChange := by
  intro s t h
  obtain ⟨_, rfl⟩ | ⟨_, u, hu, rfl⟩ := step_cases h
  · exact resumeFrame_parameters s
  · have hstart : SameParameters s (if s.inFrame then s else beginFrame s) := by
      split <;> exact ⟨rfl, rfl, rfl⟩
    have hcpu : SameParameters s u := sameParameters_trans hstart (emulate_parameters _ u hu)
    exact sameParameters_trans hcpu (runDevices_parameters u)

end Sys2Proof.Machine
end

section
/-! SUPPORT. Which registers and flags an instruction may write (10_state R23 to R28): for each operation and each shape of
instruction, once, that it leaves what the instruction's rule does not write. -/

namespace Sys2Proof.Machine

/-- The byte registers an instruction's rule writes. -/
def writes (ins : Instr) : Reg → Bool
  | .a  => writesA ins
  | .x  => writesX ins
  | .y  => writesY ins
  | .sp => writesS ins

/-- Each flag is one the rule of `ins` writes, or is the same in `q` as in `p`. -/
structure FlagsKept (ins : Instr) (p q : Flags) : Prop where
  n : writesNZ ins = true ∨ q.n = p.n
  z : writesNZ ins = true ∨ q.z = p.z
  c : writesC ins = true ∨ q.c = p.c
  v : writesV ins = true ∨ q.v = p.v
  i : writesI ins = true ∨ q.i = p.i
  d : writesD ins = true ∨ q.d = p.d

/-- Each register and flag is one the rule of `ins` writes, or is the same in `t` as in `s`. -/
structure RegistersKept (ins : Instr) (s t : State) : Prop where
  reg   : ∀ r, writes ins r = true ∨ t.reg r = s.reg r
  pc    : writesPc ins = true ∨ t.pc = s.pc
  flags : FlagsKept ins s.p t.p

variable {ins : Instr} {s u t : State} {r : Reg}

theorem FlagsKept.refl (p : Flags) : FlagsKept ins p p := ⟨.inr rfl, .inr rfl, .inr rfl, .inr rfl, .inr rfl, .inr rfl⟩

theorem RegistersKept.refl (s : State) : RegistersKept ins s s := ⟨fun _ => .inr rfl, .inr rfl, .refl _⟩

/-! ## The operations of an instruction, after one that keeps the registers -/

theorem reg_withReg_of_ne (s : State) {r q : Reg} (v : Byte) (h : q ≠ r) : (s.withReg r v).reg q = s.reg q := by
  cases r <;> cases q <;> simp [State.reg, State.withReg] at h ⊢

theorem RegistersKept.withReg (k : RegistersKept ins s u) (hr : writes ins r = true) (v : Byte) :
    RegistersKept ins s (u.withReg r v) where
  reg q := by
    by_cases hq : q = r
    · exact .inl (hq ▸ hr)
    · rw [reg_withReg_of_ne u v hq]
      exact k.reg q
  pc := by cases r <;> exact k.pc
  flags := by cases r <;> exact k.flags

theorem RegistersKept.setPc (k : RegistersKept ins s u) (hpc : writesPc ins = true) (w : Word) :
    RegistersKept ins s (u.setPc w) := ⟨k.reg, .inl hpc, k.flags⟩

theorem RegistersKept.setP (k : RegistersKept ins s u) {q : Flags} (hq : FlagsKept ins s.p q) :
    RegistersKept ins s (u.setP q) := ⟨k.reg, k.pc, hq⟩

theorem RegistersKept.setNZ (k : RegistersKept ins s u) (hnz : writesNZ ins = true) (v : Byte) :
    RegistersKept ins s (u.setNZ v) := k.setP ⟨.inl hnz, .inl hnz, k.flags.c, k.flags.v, k.flags.i, k.flags.d⟩

/-- A bus access writes no register. -/
theorem RegistersKept.bus (k : RegistersKept ins s u) (e : OnlyBusEffects u t) : RegistersKept ins s t := by
  rw [e]
  exact ⟨k.reg, k.pc, k.flags⟩

theorem RegistersKept.read (k : RegistersKept ins s u) (e : OnlyReadEffects u t) : RegistersKept ins s t :=
  k.bus (busEffects_of_read e)

theorem RegistersKept.push (k : RegistersKept ins s u) (hs : writes ins .sp = true) (v : Byte) :
    RegistersKept ins s (push v u) := (k.bus (memWrite_effects _ v u)).withReg hs _

theorem RegistersKept.push16 (k : RegistersKept ins s u) (hs : writes ins .sp = true) (w : Word) :
    RegistersKept ins s (push16 w u) := (k.push hs _).push hs _

theorem RegistersKept.pull (k : RegistersKept ins s u) (hs : writes ins .sp = true) : RegistersKept ins s (pull u).2 :=
  (k.withReg hs _).read (memRead_effects _ _)

theorem RegistersKept.pull16 (k : RegistersKept ins s u) (hs : writes ins .sp = true) : RegistersKept ins s (pull16 u).2 :=
  (k.pull hs).pull hs

theorem RegistersKept.finish {c : Nat} (h : finish c u = .next t) (k : RegistersKept ins s u) : RegistersKept ins s t := by
  rw [← outcome_next_inj h]
  exact ⟨k.reg, k.pc, k.flags⟩

/-! ## The flag computations -/

theorem flagsKept_setNZ (hnz : writesNZ ins = true) (p : Flags) (v : Byte) : FlagsKept ins p (p.setNZ v) :=
  ⟨.inl hnz, .inl hnz, .inr rfl, .inr rfl, .inr rfl, .inr rfl⟩

theorem flagsKept_carryNZ (hnz : writesNZ ins = true) (hc : writesC ins = true) (p : Flags) (c : Bool) (v : Byte) :
    FlagsKept ins p ({ p with c := c }.setNZ v) := ⟨.inl hnz, .inl hnz, .inl hc, .inr rfl, .inr rfl, .inr rfl⟩

theorem flagsKept_compare (hnz : writesNZ ins = true) (hc : writesC ins = true) (r m : Byte) (p : Flags) :
    FlagsKept ins p (compareFlags r m p) := ⟨.inl hnz, .inl hnz, .inl hc, .inr rfl, .inr rfl, .inr rfl⟩

theorem flagsKept_bit (hnz : writesNZ ins = true) (hv : writesV ins = true) (a m : Byte) (p : Flags) :
    FlagsKept ins p (bitFlags a m p) := ⟨.inl hnz, .inl hnz, .inr rfl, .inl hv, .inr rfl, .inr rfl⟩

theorem flagsKept_adc (hnz : writesNZ ins = true) (hc : writesC ins = true) (hv : writesV ins = true) (a m : Byte)
    (p : Flags) : FlagsKept ins p (adcValue a m p).2 := ⟨.inl hnz, .inl hnz, .inl hc, .inl hv, .inr rfl, .inr rfl⟩

/-- Pulled flags: the rule writes all six. -/
theorem flagsKept_pulled (hp : pullsFlags ins = true) (p q : Flags) : FlagsKept ins p q := by
  have hnz : writesNZ ins = true := by simp [writesNZ, hp]
  have hc : writesC ins = true := by simp [writesC, hp]
  have hv : writesV ins = true := by simp [writesV, hp]
  have hi : writesI ins = true := by simp [writesI, hp]
  have hd : writesD ins = true := by simp [writesD, hp]
  exact ⟨.inl hnz, .inl hnz, .inl hc, .inl hv, .inl hi, .inl hd⟩

/-! ## The shapes of instructions -/

theorem loadRegister_kept {put : State → Byte → State} (hput : ∀ s v, put s v = s.withReg r v) (hr : writes ins r = true)
    (hnz : writesNZ ins = true) {o : Operand} {c : Nat} (h : loadRegister put o c s = .next t) : RegistersKept ins s t := by
  refine .finish h ?_
  rw [hput]
  exact (((RegistersKept.refl s).read (readOperand_effects o s)).withReg hr _).setNZ hnz _

theorem moveRegister_kept {put : State → Byte → State} (hput : ∀ s v, put s v = s.withReg r v) (hr : writes ins r = true)
    (hnz : writesNZ ins = true) (k : RegistersKept ins s u) {v : Byte} {c : Nat} (h : moveRegister put v c u = .next t) :
    RegistersKept ins s t := by
  refine .finish h ?_
  rw [hput]
  exact (k.withReg hr v).setNZ hnz v

theorem accumulate_kept {f : Byte → Byte → Flags → Byte × Flags} (hr : writes ins .a = true)
    (hf : ∀ a m p, FlagsKept ins p (f a m p).2) {o : Operand} {c : Nat} (h : accumulate f o c s = .next t) :
    RegistersKept ins s t :=
  .finish h ((((RegistersKept.refl s).read (readOperand_effects o s)).withReg hr _).setP (hf _ _ _))

theorem compareWith_kept (hnz : writesNZ ins = true) (hc : writesC ins = true) {reg : Byte} {o : Operand} {c : Nat}
    (h : compareWith reg o c s = .next t) : RegistersKept ins s t :=
  .finish h (((RegistersKept.refl s).read (readOperand_effects o s)).setP (flagsKept_compare hnz hc _ _ _))

theorem bitTest_kept (hnz : writesNZ ins = true) (hv : writesV ins = true) {o : Operand} {c : Nat}
    (h : bitTest o c s = .next t) : RegistersKept ins s t :=
  .finish h (((RegistersKept.refl s).read (readOperand_effects o s)).setP (flagsKept_bit hnz hv _ _ _))

theorem storeValue_kept {v : Byte} {o : Operand} {c : Nat} (h : storeValue v o c s = .next t) : RegistersKept ins s t := by
  refine .finish h ?_
  rw [resolve_state]
  exact (RegistersKept.refl s).bus (memWrite_effects _ _ _)

theorem modifyMemory_kept {f : Byte → Flags → Byte × Flags} (hf : ∀ b p, FlagsKept ins p (f b p).2) {o : Operand} {c : Nat}
    (h : modifyMemory f o c s = .next t) : RegistersKept ins s t := by
  refine .finish h ?_
  rw [resolve_state]
  exact (((RegistersKept.refl s).read (memRead_effects _ s)).bus (memWrite_effects _ _ _)).setP (hf _ _)

theorem modifyAccumulator_kept {f : Byte → Flags → Byte × Flags} (hr : writes ins .a = true)
    (hf : ∀ b p, FlagsKept ins p (f b p).2) {c : Nat} (h : modifyAccumulator f c s = .next t) : RegistersKept ins s t :=
  .finish h (((RegistersKept.refl s).withReg hr _).setP (hf _ _))

theorem branchIf_kept (hpc : writesPc ins = true) {cond : Bool} {b : Byte} (h : branchIf cond b s = .next t) :
    RegistersKept ins s t := by
  unfold branchIf at h
  split at h
  · exact .finish h ((RegistersKept.refl s).setPc hpc _)
  · exact .finish h (.refl s)

theorem nopEquivalent_kept {op : Byte} {c : Nat} (h : nopEquivalent op c s = .next t) : RegistersKept ins s t := by
  unfold nopEquivalent at h
  split at h
  · exact .finish h (.refl s)
  · cases h

theorem takeException_kept (hs : writes ins .sp = true) (hi : writesI ins = true) (hpc : writesPc ins = true) (ret : Word)
    (b : Bool) (vector : Word) : RegistersKept ins s (takeException ret b vector s) := by
  have k := ((RegistersKept.refl s).push16 hs ret).push hs (s.p.image b)
  have hp : FlagsKept ins s.p { (push (s.p.image b) (push16 ret s)).p with i := true } :=
    ⟨k.flags.n, k.flags.z, k.flags.c, k.flags.v, .inl hi, k.flags.d⟩
  exact ((k.setP hp).read (memRead16_effects vector _)).setPc hpc _

theorem returnFromException_kept (hs : writes ins .sp = true) (hp : pullsFlags ins = true) (hpc : writesPc ins = true) :
    RegistersKept ins s (returnFromException s) :=
  ((((RegistersKept.refl s).pull hs).setP (flagsKept_pulled hp _ _)).pull16 hs).setPc hpc _

/-- Every instruction leaves the registers and flags its rule does not write. -/
theorem exec_kept (ins : Instr) (s t : State) (h : exec ins s = .next t) : RegistersKept ins s t := by
  cases ins with
  | ldaImm _ | ldaZp _ | ldaZpx _ | ldaAbs _ | ldaAbsx _ | ldaAbsy _ | ldaIndx _ | ldaIndy _ =>
    exact loadRegister_kept (r := .a) (fun _ _ => rfl) rfl rfl h
  | ldxImm _ | ldxZp _ | ldxZpy _ | ldxAbs _ | ldxAbsy _ => exact loadRegister_kept (r := .x) (fun _ _ => rfl) rfl rfl h
  | ldyImm _ | ldyZp _ | ldyZpx _ | ldyAbs _ | ldyAbsx _ => exact loadRegister_kept (r := .y) (fun _ _ => rfl) rfl rfl h
  | staZp _ | staZpx _ | staAbs _ | staAbsx _ | staAbsy _ | staIndx _ | staIndy _ | stxZp _ | stxZpy _ | stxAbs _ | styZp _
  | styZpx _ | styAbs _ => exact storeValue_kept h
  | txa | tya => exact moveRegister_kept (r := .a) (fun _ _ => rfl) rfl rfl (.refl s) h
  | tax | tsx | inx | dex => exact moveRegister_kept (r := .x) (fun _ _ => rfl) rfl rfl (.refl s) h
  | tay | iny | dey => exact moveRegister_kept (r := .y) (fun _ _ => rfl) rfl rfl (.refl s) h
  | txs => exact .finish h ((RegistersKept.refl s).withReg (r := .sp) rfl _)
  | pha | php => exact .finish h ((RegistersKept.refl s).push rfl _)
  | pla => exact moveRegister_kept (r := .a) (fun _ _ => rfl) rfl rfl ((RegistersKept.refl s).pull rfl) h
  | plp => exact .finish h (((RegistersKept.refl s).pull rfl).setP (flagsKept_pulled rfl _ _))
  | adcImm _ | adcZp _ | adcZpx _ | adcAbs _ | adcAbsx _ | adcAbsy _ | adcIndx _ | adcIndy _ =>
    exact accumulate_kept rfl (flagsKept_adc rfl rfl rfl) h
  | sbcImm _ | sbcZp _ | sbcZpx _ | sbcAbs _ | sbcAbsx _ | sbcAbsy _ | sbcIndx _ | sbcIndy _ =>
    exact accumulate_kept rfl (fun a m => flagsKept_adc rfl rfl rfl a (m ^^^ 0xFF#8)) h
  | andImm _ | andZp _ | andZpx _ | andAbs _ | andAbsx _ | andAbsy _ | andIndx _ | andIndy _ | oraImm _ | oraZp _ | oraZpx _
  | oraAbs _ | oraAbsx _ | oraAbsy _ | oraIndx _ | oraIndy _ | eorImm _ | eorZp _ | eorZpx _ | eorAbs _ | eorAbsx _
  | eorAbsy _ | eorIndx _ | eorIndy _ => exact accumulate_kept rfl (fun _ _ p => flagsKept_setNZ rfl p _) h
  | cmpImm _ | cmpZp _ | cmpZpx _ | cmpAbs _ | cmpAbsx _ | cmpAbsy _ | cmpIndx _ | cmpIndy _ | cpxImm _ | cpxZp _ | cpxAbs _
  | cpyImm _ | cpyZp _ | cpyAbs _ => exact compareWith_kept rfl rfl h
  | bitZp _ | bitAbs _ => exact bitTest_kept rfl rfl h
  | aslZp _ | aslZpx _ | aslAbs _ | aslAbsx _ | lsrZp _ | lsrZpx _ | lsrAbs _ | lsrAbsx _ | rolZp _ | rolZpx _ | rolAbs _
  | rolAbsx _ | rorZp _ | rorZpx _ | rorAbs _ | rorAbsx _ =>
    exact modifyMemory_kept (fun _ p => flagsKept_carryNZ rfl rfl p _ _) h
  | incZp _ | incZpx _ | incAbs _ | incAbsx _ | decZp _ | decZpx _ | decAbs _ | decAbsx _ =>
    exact modifyMemory_kept (fun _ p => flagsKept_setNZ rfl p _) h
  | aslAcc | lsrAcc | rolAcc | rorAcc => exact modifyAccumulator_kept rfl (fun _ p => flagsKept_carryNZ rfl rfl p _ _) h
  | bpl _ | bmi _ | bvc _ | bvs _ | bcc _ | bcs _ | bne _ | beq _ => exact branchIf_kept rfl h
  | jmpAbs _ => exact .finish h ((RegistersKept.refl s).setPc rfl _)
  | jmpInd w => exact .finish h (((RegistersKept.refl s).read (jumpPointer_effects w s)).setPc rfl _)
  | jsr _ => exact .finish h (((RegistersKept.refl s).push16 rfl _).setPc rfl _)
  | rts => exact .finish h (((RegistersKept.refl s).pull16 rfl).setPc rfl _)
  | brk => exact .finish h (takeException_kept rfl rfl rfl _ _ _)
  | rti => exact .finish h (returnFromException_kept rfl rfl rfl)
  | clc | sec =>
    exact .finish h ((RegistersKept.refl s).setP ⟨.inr rfl, .inr rfl, .inl rfl, .inr rfl, .inr rfl, .inr rfl⟩)
  | clv => exact .finish h ((RegistersKept.refl s).setP ⟨.inr rfl, .inr rfl, .inr rfl, .inl rfl, .inr rfl, .inr rfl⟩)
  | cli | sei =>
    exact .finish h ((RegistersKept.refl s).setP ⟨.inr rfl, .inr rfl, .inr rfl, .inr rfl, .inl rfl, .inr rfl⟩)
  | cld | sed =>
    exact .finish h ((RegistersKept.refl s).setP ⟨.inr rfl, .inr rfl, .inr rfl, .inr rfl, .inr rfl, .inl rfl⟩)
  | nop => exact .finish h (.refl s)
  | nopStarImp _ | nopStarImm _ _ | nopStarZp _ _ | nopStarZpx _ _ | nopStarZpy _ _ | nopStarAbs _ _ | nopStarAbsx _ _
  | nopStarAbsy _ _ | nopStarIndx _ _ | nopStarIndy _ _ => exact nopEquivalent_kept h

/-- What is written or unchanged is unchanged when it is not written. -/
theorem unchanged_of_not_written {w : Bool} {P : Prop} (h : w = true ∨ P) (hw : w = false) : P :=
  h.resolve_left (by simp [hw])

/-- Settles O30: the registers and flags by the shapes of the instructions; the rest by what any instruction can change. -/
theorem registerFrame : Obligations.RegisterFrame := by
  intro ins s t h
  obtain ⟨reg, pc, n, z, c, v, i, d⟩ := exec_kept ins s t h
  have e := exec_effects ins s t h
  refine ⟨unchanged_of_not_written (reg .a), unchanged_of_not_written (reg .x), unchanged_of_not_written (reg .y),
    unchanged_of_not_written (reg .sp), unchanged_of_not_written pc,
    fun hw => ⟨unchanged_of_not_written n hw, unchanged_of_not_written z hw⟩, unchanged_of_not_written c,
    unchanged_of_not_written v, unchanged_of_not_written i, unchanged_of_not_written d,
    ?_, ?_, ?_, ?_, ?_, ?_, ?_, ?_, ?_, ?_⟩ <;> rw [e]

end Sys2Proof.Machine
end

section
/-! SUPPORT. The address map read backwards (20_memory R61 to R70): which addresses stand for which target. Then the reads and
writes of internal RAM (R62), of addresses where nothing answers (R64 to R68, R72, R73), of program memory (R70, R425), and
the reads without side effect (R77). -/

namespace Sys2Proof.Machine

/-! ## The address map -/

theorem busTarget_eq_ppuReg_iff {a : Word} {r : Nat} : busTarget a = .ppuReg r ↔ isPpuRegister a r := by
  simp only [busTarget, isPpuRegister, ite_eq_iff, reduceCtorEq, BusTarget.ppuReg.injEq, and_false, false_or, or_false]
  omega

theorem busTarget_eq_apuChannel_iff {a : Word} {r : Nat} : busTarget a = .apuChannel r ↔
    0x4000 ≤ a.toNat ∧ a.toNat < 0x4014 ∧ a.toNat - 0x4000 = r := by
  simp only [busTarget, ite_eq_iff, reduceCtorEq, BusTarget.apuChannel.injEq, and_false, false_or, or_false]
  omega

theorem busTarget_eq_oamDma_iff {a : Word} : busTarget a = .oamDma ↔ a = 0x4014#16 := by
  simp only [busTarget, ite_eq_iff, reduceCtorEq, and_false, false_or, or_false, and_true, ← BitVec.toNat_inj,
    BitVec.toNat_ofNat]
  omega

theorem busTarget_eq_apuStatus_iff {a : Word} : busTarget a = .apuStatus ↔ a = 0x4015#16 := by
  simp only [busTarget, ite_eq_iff, reduceCtorEq, and_false, false_or, or_false, and_true, ← BitVec.toNat_inj,
    BitVec.toNat_ofNat]
  omega

theorem busTarget_eq_port1_iff {a : Word} : busTarget a = .port1 ↔ a = 0x4016#16 := by
  simp only [busTarget, ite_eq_iff, reduceCtorEq, and_false, false_or, or_false, and_true, ← BitVec.toNat_inj,
    BitVec.toNat_ofNat]
  omega

theorem busTarget_eq_port2_iff {a : Word} : busTarget a = .port2 ↔ a = 0x4017#16 := by
  simp only [busTarget, ite_eq_iff, reduceCtorEq, and_false, false_or, or_false, and_true, ← BitVec.toNat_inj,
    BitVec.toNat_ofNat]
  omega

theorem busTarget_eq_nothing_iff {a : Word} : busTarget a = .nothing ↔ 0x4018 ≤ a.toNat ∧ a.toNat < 0x4020 := by
  simp only [busTarget, ite_eq_iff, reduceCtorEq, and_false, false_or, or_false, and_true]
  omega

theorem busTarget_eq_expansion_iff {a : Word} : busTarget a = .expansion ↔ 0x4020 ≤ a.toNat ∧ a.toNat < 0x6000 := by
  simp only [busTarget, ite_eq_iff, reduceCtorEq, and_false, false_or, or_false, and_true]
  omega

/-- `$4000-$4014`: the write-only APU channel registers and the sprite DMA register. -/
theorem busTarget_writeOnly {a : Word} (h : 0x4000 ≤ a.toNat) (h' : a.toNat ≤ 0x4014) :
    (∃ r, busTarget a = .apuChannel r) ∨ busTarget a = .oamDma := by
  obtain hlt | heq := Nat.lt_or_eq_of_le h'
  · exact .inl ⟨_, busTarget_eq_apuChannel_iff.2 ⟨h, hlt, rfl⟩⟩
  · exact .inr (busTarget_eq_oamDma_iff.2 (BitVec.eq_of_toNat_eq heq))

/-- `$4018-$5FFF`: nothing answers. -/
theorem busTarget_unanswered {a : Word} (h : 0x4018 ≤ a.toNat) (h' : a.toNat < 0x6000) :
    busTarget a = .nothing ∨ busTarget a = .expansion := by
  rw [busTarget_eq_nothing_iff, busTarget_eq_expansion_iff]
  omega

/-! ## Internal RAM -/

/-- Settles O33: both addresses are cells of internal RAM, read and written as a store is. -/
theorem ramIsMirrored : Obligations.RamIsMirrored := by
  intro a b v s ha hb
  have hread := memRead_ram (busTarget_ram b hb)
  have hwrite := memWrite_ram (busTarget_ram a ha) v s
  refine ⟨hread s, hwrite, ?_⟩
  rw [hread, hread, hwrite, store_read_write]

/-! ## Where nothing answers -/

theorem ppuRegRead_writeOnly {r : Nat} (h2 : r ≠ 2) (h4 : r ≠ 4) (h7 : r ≠ 7) (s : State) :
    ppuRegRead r s = drawOpenBus s := by
  unfold ppuRegRead
  split
  · exact absurd rfl h2
  · exact absurd rfl h4
  · exact absurd rfl h7
  · rfl

theorem memRead_ppuReg {a : Word} {r : Nat} (h : isPpuRegister a r) (s : State) : memRead a s = ppuRegRead r s := by
  unfold memRead
  rw [busTarget_eq_ppuReg_iff.2 h]

/-- Settles O34: each range by its target on the bus; reading the target is one draw, a write where nothing answers is lost. -/
theorem openBusReads : Obligations.OpenBusReads := by
  intro a v s
  constructor
  · rintro (⟨r, hr, h2, h4, h7⟩ | ⟨hlo, hhi⟩ | ⟨hlo, hhi⟩)
    · rw [memRead_ppuReg hr, ppuRegRead_writeOnly h2 h4 h7]
      rfl
    · obtain ⟨r, ht⟩ | ht := busTarget_writeOnly hlo hhi <;> simp only [memRead, ht, drawOpenBus]
    · obtain ht | ht := busTarget_unanswered hlo hhi <;> simp only [memRead, ht, drawOpenBus]
  · intro hlo hhi
    obtain ht | ht := busTarget_unanswered hlo hhi <;> simp only [memWrite, ht]

/-! ## Reads without side effect -/

/-- A PPU register but `$2002` and `$2007` is read without side effect. -/
theorem ppuRegRead_draws {r : Nat} (h2 : r ≠ 2) (h7 : r ≠ 7) (s : State) :
    (ppuRegRead r s).2 = { s with draws := (ppuRegRead r s).2.draws } := by
  by_cases h4 : r = 4
  · subst h4
    rfl
  · rw [ppuRegRead_writeOnly h2 h4 h7]
    rfl

/-- Settles O35: by the target of the address; the excluded addresses are those of the targets whose reads have effects. -/
theorem otherReadsChangeNothing : Obligations.OtherReadsChangeNothing := by
  intro a s hnot2 hnot7 hstatus hport1 hport2
  cases ht : busTarget a with
  | ram i => rw [memRead_ram ht]
  | prg => rw [memRead_prg ht]
  | ppuReg r =>
    have hr := busTarget_eq_ppuReg_iff.1 ht
    rw [memRead_ppuReg hr]
    exact ppuRegRead_draws (fun h => hnot2 (h ▸ hr)) (fun h => hnot7 (h ▸ hr)) s
  | apuStatus => exact absurd (busTarget_eq_apuStatus_iff.1 ht) hstatus
  | port1 => exact absurd (busTarget_eq_port1_iff.1 ht) hport1
  | port2 => exact absurd (busTarget_eq_port2_iff.1 ht) hport2
  | apuChannel _ | oamDma | nothing | expansion => simp only [memRead, ht, drawOpenBus]
  | cartRam i =>
    simp only [memRead, ht]
    split <;> rfl

/-! ## Program memory -/

/-- `t` differs from `s` at most where a write to a mapper may have an effect: its registers, its windows, the mirroring. -/
def OnlyMapperWriteEffects (s t : State) : Prop :=
  t = { s with
    mapper := { s.mapper with prgWin := t.mapper.prgWin, chrWin := t.mapper.chrWin, regs := t.mapper.regs }
    ppu := { s.ppu with mirroring := t.ppu.mirroring } }

theorem mapperSetMirroring_mapperEffects (m : Mirroring) (s : State) :
    OnlyMapperWriteEffects s (mapperSetMirroring m s) := by
  unfold mapperSetMirroring
  split <;> rfl

theorem mmc1Update_mapperEffects (r : Mmc1) (s : State) : OnlyMapperWriteEffects s (mmc1Update r s) := by
  unfold mmc1Update mapperSetMirroring
  dsimp only
  split_ifs <;> rfl

theorem mmc1Write_mapperEffects (r : Mmc1) (a : Word) (v : Byte) (s : State) :
    OnlyMapperWriteEffects s (mmc1Write r a v s) := by
  unfold mmc1Write
  dsimp only
  split_ifs
  · exact mmc1Update_mapperEffects _ s
  · exact mmc1Update_mapperEffects _ s
  · rfl

theorem mmc3Write_mapperEffects (r : Mmc3) (a : Word) (v : Byte) (s : State) :
    OnlyMapperWriteEffects s (mmc3Write r a v s) := by
  unfold mmc3Write
  split
  case h_3 => exact mapperSetMirroring_mapperEffects _ s
  all_goals rfl

theorem mapperWrite8_mapperEffects (a : Word) (v : Byte) (s : State) : OnlyMapperWriteEffects s (mapperWrite8 a v s) := by
  unfold mapperWrite8
  split
  · rfl
  · exact mmc1Write_mapperEffects _ a v s
  · exact mmc3Write_mapperEffects _ a v s

theorem memWrite_prg {a : Word} (h : busTarget a = .prg) (v : Byte) (s : State) : memWrite a v s = mapperWrite8 a v s := by
  unfold memWrite
  rw [h]

theorem mapperWrite8_nrom {s : State} (h : s.mapper.regs = .nrom) (a : Word) (v : Byte) : mapperWrite8 a v s = s := by
  unfold mapperWrite8
  rw [h]

/-- Settles O36: the write goes to the mapper, which stores in no memory; NROM ignores it. -/
theorem romWritesChangeNoMemory : Obligations.RomWritesChangeNoMemory := by
  intro a v s ha
  rw [memWrite_prg (busTarget_prg a ha)]
  have e := mapperWrite8_mapperEffects a v s
  refine ⟨?_, ?_, ?_, ?_, ?_, ?_, ?_, fun hnrom => mapperWrite8_nrom hnrom a v⟩ <;> rw [e]

end Sys2Proof.Machine
end

section
/-! SUPPORT. What an instruction leaves unchanged in memory: everything when it stores nothing (20_memory R77; 40_load_store
R130), and all but what its address selects when it stores or modifies (20_memory R62, R69, R70; 40_load_store R134;
43_shift_incdec R200). -/

namespace Sys2Proof.Machine

/-- Program memory reads alike under the same windows and image. -/
theorem prgRead_congr {s t : State} (hrom : t.rom = s.rom) (hwin : t.mapper.prgWin = s.mapper.prgWin) (a : Nat) :
    prgRead t a = prgRead s a := by
  unfold prgRead prgMap
  rw [hrom, hwin]

/-- Settles O31: such an instruction only updates registers and reads, and no read touches a memory or the mapper. -/
theorem nonStoringFrame : Obligations.NonStoringFrame := by
  intro i s t hi h
  have e := exec_register_effects i s t hi h
  have hram : t.ram = s.ram := by rw [e]
  have hmapper : t.mapper = s.mapper := by rw [e]
  have hoam : t.ppu.oam = s.ppu.oam := by rw [e]
  have hnametable : t.ppu.nametableRam = s.ppu.nametableRam := by rw [e]
  have hpalette : t.ppu.paletteRam = s.ppu.paletteRam := by rw [e]
  have hrom : t.rom = s.rom := by rw [e]
  refine ⟨fun _ => by rw [hram], fun _ => by rw [hmapper], fun _ => by rw [hmapper], fun _ => by rw [hoam],
    fun _ => by rw [hnametable], fun _ => by rw [hpalette], prgRead_congr hrom (by rw [hmapper]), hmapper,
    ?_, ?_, ?_, ?_⟩ <;> rw [e]

/-! ## The frame of a write -/

/-- What an access whose bus target is `b` leaves unchanged between `s` and `t`: each cell and register the target does not
select. -/
structure WriteFrame (b : BusTarget) (s t : State) : Prop where
  ram          : ∀ j, b ≠ .ram j → Store.read t.ram j = Store.read s.ram j := by intros; rfl
  prgRam       : ∀ j, b ≠ .cartRam j → Store.read t.mapper.prgRam j = Store.read s.mapper.prgRam j := by intros; rfl
  nametableRam : (∀ r, b ≠ .ppuReg r) → t.ppu.nametableRam = s.ppu.nametableRam := by intros; rfl
  paletteRam   : (∀ r, b ≠ .ppuReg r) → t.ppu.paletteRam = s.ppu.paletteRam := by intros; rfl
  chrRam       : (∀ r, b ≠ .ppuReg r) → t.mapper.chrRam = s.mapper.chrRam := by intros; rfl
  oam          : (∀ r, b ≠ .ppuReg r) → b ≠ .oamDma → t.ppu.oam = s.ppu.oam := by intros; rfl
  regs         : b ≠ .prg → t.mapper.regs = s.mapper.regs := by intros; rfl
  prgWin       : b ≠ .prg → t.mapper.prgWin = s.mapper.prgWin := by intros; rfl
  chrWin       : b ≠ .prg → t.mapper.chrWin = s.mapper.chrWin := by intros; rfl
  stall        : b ≠ .oamDma → t.cyclesToHalt = s.cyclesToHalt := by intros; rfl
  rom          : t.rom = s.rom := by rfl

variable {b : BusTarget} {s t u : State}

theorem WriteFrame.trans (h : WriteFrame b s u) (k : WriteFrame b u t) : WriteFrame b s t where
  ram j hj       := (k.ram j hj).trans (h.ram j hj)
  prgRam j hj    := (k.prgRam j hj).trans (h.prgRam j hj)
  nametableRam q := (k.nametableRam q).trans (h.nametableRam q)
  paletteRam q   := (k.paletteRam q).trans (h.paletteRam q)
  chrRam q       := (k.chrRam q).trans (h.chrRam q)
  oam q d        := (k.oam q d).trans (h.oam q d)
  regs q         := (k.regs q).trans (h.regs q)
  prgWin q       := (k.prgWin q).trans (h.prgWin q)
  chrWin q       := (k.chrWin q).trans (h.chrWin q)
  stall d        := (k.stall d).trans (h.stall d)
  rom            := k.rom.trans h.rom

/-- Register updates and reads are in the frame of every target. -/
theorem WriteFrame.of_register (e : OnlyRegisterEffects s t) : WriteFrame b s t := by
  rw [e]
  exact {}

theorem WriteFrame.of_read (e : OnlyReadEffects s t) : WriteFrame b s t := .of_register (registerEffects_of_read e)

theorem WriteFrame.finish {c : Nat} (h : finish c u = .next t) (k : WriteFrame b s u) : WriteFrame b s t :=
  k.trans (.of_register (finish_register h rfl))

theorem mapperWrite8_frame (a : Word) (v : Byte) (s : State) : WriteFrame .prg s (mapperWrite8 a v s) := by
  rw [mapperWrite8_mapperEffects a v s]
  exact { regs := (absurd rfl ·), prgWin := (absurd rfl ·), chrWin := (absurd rfl ·) }

/-- A write to a PPU register changes the PPU and pattern RAM at most. -/
theorem ppuRegWrite_portEffects (r : Nat) (v : Byte) (s : State) :
    ppuRegWrite r v s = { s with
      ppu := (ppuRegWrite r v s).ppu
      mapper := { s.mapper with chrRam := (ppuRegWrite r v s).mapper.chrRam } } := by
  unfold ppuRegWrite ppuWriteData ppuWrite chrWrite
  dsimp only
  split
  case h_8 => split_ifs <;> rfl
  all_goals rfl

theorem ppuRegWrite_frame (r : Nat) (v : Byte) (s : State) : WriteFrame (.ppuReg r) s (ppuRegWrite r v s) := by
  rw [ppuRegWrite_portEffects r v s]
  exact { nametableRam := fun q => absurd rfl (q r), paletteRam := fun q => absurd rfl (q r),
          chrRam := fun q => absurd rfl (q r), oam := fun q => absurd rfl (q r) }

/-- The sprite DMA reads, and stores in OAM only. -/
theorem dmaCopy_frame (n i : Nat) (page : Byte) (s : State) : WriteFrame .oamDma s (dmaCopy n i page s) := by
  induction n generalizing i s with
  | zero => exact {}
  | succ n ih =>
    have hread : WriteFrame .oamDma s (memRead (joinBytes page (BitVec.ofNat 8 i)) s).2 := .of_read (memRead_effects _ s)
    refine (hread.trans ?_).trans (ih _ _)
    exact { oam := fun _ d => absurd rfl d }

/-- A CPU-bus write leaves all that its address does not select. -/
theorem memWrite_frame (a : Word) (v : Byte) (s : State) : WriteFrame (busTarget a) s (memWrite a v s) := by
  unfold memWrite
  cases busTarget a with
  | ram i => exact { ram := fun j hj => store_read_write_other _ _ _ _ fun h => hj (h ▸ rfl) }
  | ppuReg r => exact ppuRegWrite_frame r v s
  | oamDma => exact (dmaCopy_frame 256 0 v s).trans { stall := (absurd rfl ·) }
  | port1 =>
    dsimp only
    unfold writeStrobe
    split <;> exact {}
  | cartRam i =>
    dsimp only
    split
    · exact { prgRam := fun j hj => store_read_write_other _ _ _ _ fun h => hj (h ▸ rfl) }
    · exact {}
  | prg => exact mapperWrite8_frame a v s
  | apuChannel _ | apuStatus | port2 | nothing | expansion => exact {}

/-! ## Stores and read-modify-writes -/

/-- A store form runs as one store of its register. -/
theorem exec_storeForm {i : Instr} {r : Reg} {f : OperandForm} (h : storeForm i = some (r, f)) (s : State) :
    exec i s = storeValue (s.reg r) f.operand f.cycles s := by
  unfold storeForm at h
  split at h <;> cases h <;> rfl

/-- The model's value function of a one-byte operation. -/
def byteValue : ByteOp → Byte → Flags → Byte × Flags
  | .asl => aslValue
  | .lsr => lsrValue
  | .rol => rolValue
  | .ror => rorValue
  | .inc => incValue
  | .dec => decValue

/-- A read-modify-write form runs as one read and one write of its operation's value. -/
theorem exec_modifyForm {i : Instr} {op : ByteOp} {f : OperandForm} (h : modifyForm i = some (op, f)) (s : State) :
    exec i s = modifyMemory (byteValue op) f.operand f.cycles s := by
  unfold modifyForm at h
  split at h <;> cases h <;> rfl

theorem storeValue_frame {v : Byte} {o : Operand} {c : Nat} (h : storeValue v o c s = .next t) :
    WriteFrame (busTarget (resolve o s).ea) s t := by
  refine .finish h ?_
  rw [resolve_state]
  exact memWrite_frame _ v s

theorem modifyMemory_frame {g : Byte → Flags → Byte × Flags} {o : Operand} {c : Nat} (h : modifyMemory g o c s = .next t) :
    WriteFrame (busTarget (resolve o s).ea) s t := by
  refine .finish h ?_
  rw [resolve_state]
  have hread : WriteFrame (busTarget (resolve o s).ea) s (memRead (resolve o s).ea s).2 := .of_read (memRead_effects _ s)
  exact (hread.trans (memWrite_frame _ _ _)).trans (.of_register rfl)

/-- Settles O32: a store is one write, a read-modify-write a read and a write, and a write is framed by its target. -/
theorem storeFrame : Obligations.StoreFrame := by
  intro i o s t hform h ea
  have k : WriteFrame (busTarget ea) s t := by
    obtain ⟨r, f, hf, rfl⟩ | ⟨op, f, hf, rfl⟩ := hform
    · rw [exec_storeForm hf] at h
      exact storeValue_frame h
    · rw [exec_modifyForm hf] at h
      exact modifyMemory_frame h
  exact ⟨k.ram, k.prgRam,
    fun q => ⟨fun _ => by rw [k.nametableRam q], fun _ => by rw [k.paletteRam q], fun _ => by rw [k.chrRam q],
      fun d _ => by rw [k.oam q d]⟩,
    fun q => ⟨k.regs q, k.prgWin q, k.chrWin q, prgRead_congr k.rom (k.prgWin q)⟩, k.stall⟩

end Sys2Proof.Machine
end

section
/-! SUPPORT. The decoder and the encoder undo each other (30_encoding R100 to R104, R121). -/

namespace Sys2Proof.Machine

/-- The undocumented instruction of an operand shape; no undocumented opcode has the shapes `acc`, `ind` and `rel`. -/
def nopStar (m : Mode) (op b1 b2 : Byte) : Instr :=
  match m with
  | .imp | .acc | .ind | .rel => .nopStarImp op
  | .imm  => .nopStarImm op b1
  | .zp   => .nopStarZp op b1
  | .zpx  => .nopStarZpx op b1
  | .zpy  => .nopStarZpy op b1
  | .abs  => .nopStarAbs op (joinBytes b2 b1)
  | .absx => .nopStarAbsx op (joinBytes b2 b1)
  | .absy => .nopStarAbsy op (joinBytes b2 b1)
  | .indx => .nopStarIndx op b1
  | .indy => .nopStarIndy op b1

/-- Row by row: what an opcode builds, a documented one set aside, is the `NOP*` of the row's shape. -/
theorem buildInstr_or_documented (op b1 b2 : Byte) :
    (bif (opRow op).documented then nopStar (opRow op).mode op b1 b2 else buildInstr op b1 b2) =
      nopStar (opRow op).mode op b1 b2 := by
  obtain ⟨n⟩ := op
  fin_cases n <;> rfl

/-- An undocumented opcode builds the `NOP*` of its row's shape. -/
theorem buildInstr_undocumented {op : Byte} {m : Mode} (h : isUndocumented op m = true) (b1 b2 : Byte) :
    buildInstr op b1 b2 = nopStar m op b1 b2 := by
  obtain ⟨hdoc, rfl⟩ : (opRow op).documented = false ∧ (opRow op).mode = m := by simpa [isUndocumented] using h
  simpa [hdoc] using buildInstr_or_documented op b1 b2

/-- An undocumented opcode of a shape has the shape's length. -/
theorem opLength_undocumented {op : Byte} {m : Mode} (h : isUndocumented op m = true) : opLength op = m.length :=
  (Laws.EncodedLength.of_mode h rfl).symm

/-- Three bytes decode to an instruction whose operand is a word, low byte first. -/
theorem decode_word {op : Byte} (h : opLength op = 3) {make : Word → Instr}
    (hb : ∀ b1 b2, buildInstr op b1 b2 = make (joinBytes b2 b1)) (w : Word) (rest : List Byte) :
    decode (op :: loByte w :: hiByte w :: rest) = .ok (make w, rest) := by
  rw [decode_three h, hb, joinBytes_hi_lo]

theorem decode_nopStar_one {op : Byte} {m : Mode} (h : isUndocumented op m = true) (hm : m.length = 1) (rest : List Byte) :
    decode (op :: rest) = .ok (nopStar m op 0 0, rest) := by
  rw [decode_one (by rw [opLength_undocumented h, hm]), buildInstr_undocumented h]

theorem decode_nopStar_two {op : Byte} {m : Mode} (h : isUndocumented op m = true) (hm : m.length = 2) (b1 : Byte)
    (rest : List Byte) : decode (op :: b1 :: rest) = .ok (nopStar m op b1 0, rest) := by
  rw [decode_two (by rw [opLength_undocumented h, hm]), buildInstr_undocumented h]

theorem decode_nopStar_word {op : Byte} {m : Mode} (h : isUndocumented op m = true) (hm : m.length = 3) {make : Word → Instr}
    (hb : ∀ b1 b2, nopStar m op b1 b2 = make (joinBytes b2 b1)) (w : Word) (rest : List Byte) :
    decode (op :: loByte w :: hiByte w :: rest) = .ok (make w, rest) :=
  decode_word (by rw [opLength_undocumented h, hm]) (fun b1 b2 => by rw [buildInstr_undocumented h, hb]) w rest

/-- Settles O2: by the length of the instruction, each opcode's row builds the instruction back from its operand bytes. -/
theorem decodeOfEncode : Obligations.DecodeOfEncode := by
  intro i rest h
  cases i with
  | brk | php | aslAcc | clc | plp | rolAcc | sec | rti | pha | lsrAcc | cli | rts | pla | rorAcc | sei | dey | txa | tya
  | txs | tay | tax | clv | tsx | iny | dex | cld | inx | nop | sed => exact decode_one rfl rest
  | nopStarImp _ => exact decode_nopStar_one h rfl rest
  | nopStarImm _ b1 | nopStarZp _ b1 | nopStarZpx _ b1 | nopStarZpy _ b1 | nopStarIndx _ b1 | nopStarIndy _ b1 =>
    exact decode_nopStar_two h rfl b1 rest
  | nopStarAbs _ w | nopStarAbsx _ w | nopStarAbsy _ w => exact decode_nopStar_word h rfl (fun _ _ => rfl) w rest
  | oraAbs w | aslAbs w | oraAbsy w | oraAbsx w | aslAbsx w | jsr w | bitAbs w | andAbs w | rolAbs w | andAbsy w | andAbsx w
  | rolAbsx w | jmpAbs w | eorAbs w | lsrAbs w | eorAbsy w | eorAbsx w | lsrAbsx w | jmpInd w | adcAbs w | rorAbs w
  | adcAbsy w | adcAbsx w | rorAbsx w | styAbs w | staAbs w | stxAbs w | staAbsy w | staAbsx w | ldyAbs w | ldaAbs w
  | ldxAbs w | ldaAbsy w | ldyAbsx w | ldaAbsx w | ldxAbsy w | cpyAbs w | cmpAbs w | decAbs w | cmpAbsy w | cmpAbsx w
  | decAbsx w | cpxAbs w | sbcAbs w | incAbs w | sbcAbsy w | sbcAbsx w | incAbsx w =>
    exact decode_word rfl (fun _ _ => rfl) w rest
  | oraIndx b1 | oraZp b1 | aslZp b1 | oraImm b1 | bpl b1 | oraIndy b1 | oraZpx b1 | aslZpx b1 | andIndx b1 | bitZp b1
  | andZp b1 | rolZp b1 | andImm b1 | bmi b1 | andIndy b1 | andZpx b1 | rolZpx b1 | eorIndx b1 | eorZp b1 | lsrZp b1
  | eorImm b1 | bvc b1 | eorIndy b1 | eorZpx b1 | lsrZpx b1 | adcIndx b1 | adcZp b1 | rorZp b1 | adcImm b1 | bvs b1
  | adcIndy b1 | adcZpx b1 | rorZpx b1 | staIndx b1 | styZp b1 | staZp b1 | stxZp b1 | bcc b1 | staIndy b1 | styZpx b1
  | staZpx b1 | stxZpy b1 | ldyImm b1 | ldaIndx b1 | ldxImm b1 | ldyZp b1 | ldaZp b1 | ldxZp b1 | ldaImm b1 | bcs b1
  | ldaIndy b1 | ldyZpx b1 | ldaZpx b1 | ldxZpy b1 | cpyImm b1 | cmpIndx b1 | cpyZp b1 | cmpZp b1 | decZp b1 | cmpImm b1
  | bne b1 | cmpIndy b1 | cmpZpx b1 | decZpx b1 | cpxImm b1 | sbcIndx b1 | cpxZp b1 | sbcZp b1 | incZp b1 | sbcImm b1
  | beq b1 | sbcIndy b1 | sbcZpx b1 | incZpx b1 => exact decode_two rfl b1 rest

/-- The bytes of an instruction of a length: the opcode, then one operand byte or the bytes of a word, low byte first
(30_encoding R100, R101). -/
def instrBytes (length : Nat) (op b1 : Byte) (w : Word) : List Byte :=
  match length with
  | 1 => [op]
  | 2 => [op, b1]
  | _ => [op, loByte w, hiByte w]

/-- What an opcode builds from its operand bytes is encoded as the opcode and these bytes. -/
theorem encode_buildInstr (op b1 b2 : Byte) :
    encode (buildInstr op b1 b2) = instrBytes (opLength op) op b1 (joinBytes b2 b1) := by
  obtain ⟨n⟩ := op
  fin_cases n <;> rfl

/-- Every opcode builds a well-formed instruction: a `NOP*` row carries its own opcode in its own shape. -/
theorem buildInstr_wellFormed (op b1 b2 : Byte) : (buildInstr op b1 b2).wellFormed = true := by
  obtain ⟨n⟩ := op
  fin_cases n <;> rfl

/-- An opcode builds an instruction with that opcode. -/
theorem buildInstr_opcode (op b1 b2 : Byte) : (buildInstr op b1 b2).opcode = op := by
  unfold Instr.opcode
  rw [encode_buildInstr]
  obtain h | h | h := opLength_cases op <;> rw [h] <;> rfl

/-- Settles O3: by the length of the opcode, what its row builds is encoded as the bytes taken. -/
theorem encodeOfDecode : Obligations.EncodeOfDecode := by
  intro op b1 b2 rest
  obtain h | h | h := opLength_cases op
  · exact ⟨_, _, decode_one h _, buildInstr_wellFormed .., buildInstr_opcode .., by simp [encode_buildInstr, h, instrBytes]⟩
  · exact ⟨_, _, decode_two h _ _, buildInstr_wellFormed .., buildInstr_opcode ..,
      by simp [encode_buildInstr, h, instrBytes]⟩
  · exact ⟨_, _, decode_three h _ _ _, buildInstr_wellFormed .., buildInstr_opcode ..,
      by simp [encode_buildInstr, h, instrBytes]⟩

/-- Settles O1: each word is decoded by computation. -/
theorem knownWordsDecode : Obligations.KnownWordsDecode := by
  exact ⟨rfl, rfl, rfl, rfl, rfl, rfl, rfl, rfl, rfl, rfl⟩

end Sys2Proof.Machine
end

section
/-! SUPPORT. The cycles of an instruction against its opcode-table row (30_encoding R105, R119; 00_scope R13). -/

namespace Sys2Proof

/-- What a row says of cycles: whether it is a branch's, its base cycles, and whether a page crossing costs one more. -/
def OpRow.timing (r : OpRow) : Bool × Nat × Bool := (r.mode == .rel, r.cycles, r.penalty)

end Sys2Proof

namespace Sys2Proof.Machine

variable {i : Instr} {op : Byte} {bs : List Byte} {c n : Nat} {s t u : State}

/-- The row of an instruction is that of the first byte of its encoding. -/
theorem row_of_encode (h : encode i = op :: bs) : i.row = opRow op := by
  unfold Instr.row Instr.opcode
  rw [h]
  rfl

/-- The cycle counts a row allows: 2, 3 or 4 for a branch, else its base cycles, and one more on a crossing where it is marked. -/
def CyclesAllowed (r : OpRow) (n : Nat) : Prop :=
  (r.mode = .rel → 2 ≤ n ∧ n ≤ 4) ∧ (r.mode ≠ .rel → n = r.cycles ∨ (r.penalty = true ∧ n = r.cycles + 1))

theorem cyclesAllowed_base {r : OpRow} {pen : Bool} (h : r.timing = (false, c, pen)) : CyclesAllowed r c := by
  simp only [OpRow.timing, Prod.mk.injEq, beq_eq_false_iff_ne] at h
  obtain ⟨hm, hc, -⟩ := h
  exact ⟨fun hrel => absurd hrel hm, fun _ => .inl hc.symm⟩

theorem cyclesAllowed_crossed {r : OpRow} (h : r.timing = (false, c, true)) : CyclesAllowed r (c + 1) := by
  simp only [OpRow.timing, Prod.mk.injEq, beq_eq_false_iff_ne] at h
  obtain ⟨hm, rfl, hp⟩ := h
  exact ⟨fun hrel => absurd hrel hm, fun _ => .inr ⟨hp, rfl⟩⟩

theorem cyclesAllowed_branch {r : OpRow} (h : r.mode = .rel) (h2 : 2 ≤ n) (h4 : n ≤ 4) : CyclesAllowed r n :=
  ⟨fun _ => ⟨h2, h4⟩, fun hm => absurd h hm⟩

/-- The operands whose address is indexed with a carry into the high byte. -/
def Operand.canCross : Operand → Bool
  | .absx _ | .absy _ | .indy _ => true
  | .imm _ | .zp _ | .zpx _ | .zpy _ | .abs _ | .indx _ => false

theorem neverCrosses_of_canCross {o : Operand} (h : o.canCross = false) : NeverCrosses o := by
  cases o with
  | absx _ | absy _ | indy _ => cases h
  | imm _ | zp _ | zpx _ | zpy _ | abs _ | indx _ => exact fun _ => rfl

/-- An outcome by `finish` takes the cycles given. -/
theorem finish_cycles (h : finish c u = .next t) : t.stepCycles = c := by
  rw [← outcome_next_inj h]
  rfl

/-- An instruction of fixed cycles takes those of its row. -/
theorem fixed_cyclesAllowed {pen : Bool} (he : encode i = op :: bs) (hrow : (opRow op).timing = (false, c, pen))
    (h : finish c u = .next t) : CyclesAllowed i.row t.stepCycles := by
  rw [finish_cycles h, row_of_encode he]
  exact cyclesAllowed_base hrow

/-- An instruction that reads an operand takes the cycles of its row, which is marked just when the operand can cross. -/
theorem operand_cyclesAllowed {o : Operand} (he : encode i = op :: bs) (hrow : (opRow op).timing = (false, c, o.canCross))
    (h : finish (c + penalty (readOperand o s).crossed) u = .next t) : CyclesAllowed i.row t.stepCycles := by
  rw [finish_cycles h, row_of_encode he]
  cases hx : o.canCross with
  | false =>
    rw [neverCrosses_of_canCross hx s]
    exact cyclesAllowed_base hrow
  | true =>
    rw [hx] at hrow
    cases (readOperand o s).crossed with
    | false => exact cyclesAllowed_base hrow
    | true => exact cyclesAllowed_crossed hrow

/-- A branch takes 2 cycles, or 3 or 4 when it is taken. -/
theorem branchIf_cyclesAllowed {cond : Bool} {b : Byte} (he : encode i = op :: bs) (hrow : (opRow op).mode = .rel)
    (h : branchIf cond b s = .next t) : CyclesAllowed i.row t.stepCycles := by
  rw [branchIf_eq] at h
  rw [← outcome_next_inj h, row_of_encode he]
  apply cyclesAllowed_branch hrow <;> split_ifs <;> simp

/-- The cycles of a `NOP*` by operand shape (45_system_flags R240). -/
def nopStarCycles : Mode → Nat
  | .imp | .acc | .imm | .rel => 2
  | .zp => 3
  | .zpx | .zpy | .abs | .absx | .absy | .ind => 4
  | .indx => 6
  | .indy => 5

theorem undocumented_timing (h : (opRow op).documented = false) :
    (opRow op).timing = (false, nopStarCycles (opRow op).mode, false) := by
  revert op
  decide

/-- A `NOP*` takes the cycles of its row. -/
theorem nopEquivalent_cyclesAllowed {m : Mode} (hop : isUndocumented op m = true)
    (h : nopEquivalent op (nopStarCycles m) s = .next t) : CyclesAllowed (opRow op) t.stepCycles := by
  obtain ⟨hdoc, rfl⟩ : (opRow op).documented = false ∧ (opRow op).mode = m := by simpa [isUndocumented] using hop
  unfold nopEquivalent at h
  split at h
  · rw [finish_cycles h]
    exact cyclesAllowed_base (undocumented_timing hdoc)
  · cases h

/-- Settles O4: by the shape of the instruction, each of which gives its cycles once. -/
theorem cyclesMatchOpcodeTable : Obligations.CyclesMatchOpcodeTable := by
  intro i s t hw h
  change CyclesAllowed i.row t.stepCycles
  cases i with
  | ldaImm _ | ldaZp _ | ldaZpx _ | ldaAbs _ | ldaAbsx _ | ldaAbsy _ | ldaIndx _ | ldaIndy _ | ldxImm _ | ldxZp _ | ldxZpy _
  | ldxAbs _ | ldxAbsy _ | ldyImm _ | ldyZp _ | ldyZpx _ | ldyAbs _ | ldyAbsx _
  | adcImm _ | adcZp _ | adcZpx _ | adcAbs _ | adcAbsx _ | adcAbsy _ | adcIndx _ | adcIndy _
  | sbcImm _ | sbcZp _ | sbcZpx _ | sbcAbs _ | sbcAbsx _ | sbcAbsy _ | sbcIndx _ | sbcIndy _
  | andImm _ | andZp _ | andZpx _ | andAbs _ | andAbsx _ | andAbsy _ | andIndx _ | andIndy _
  | oraImm _ | oraZp _ | oraZpx _ | oraAbs _ | oraAbsx _ | oraAbsy _ | oraIndx _ | oraIndy _
  | eorImm _ | eorZp _ | eorZpx _ | eorAbs _ | eorAbsx _ | eorAbsy _ | eorIndx _ | eorIndy _
  | cmpImm _ | cmpZp _ | cmpZpx _ | cmpAbs _ | cmpAbsx _ | cmpAbsy _ | cmpIndx _ | cmpIndy _
  | cpxImm _ | cpxZp _ | cpxAbs _ | cpyImm _ | cpyZp _ | cpyAbs _ => exact operand_cyclesAllowed rfl rfl h
  | staZp _ | staZpx _ | staAbs _ | staAbsx _ | staAbsy _ | staIndx _ | staIndy _ | stxZp _ | stxZpy _ | stxAbs _ | styZp _
  | styZpx _ | styAbs _ | bitZp _ | bitAbs _
  | aslZp _ | aslZpx _ | aslAbs _ | aslAbsx _ | lsrZp _ | lsrZpx _ | lsrAbs _ | lsrAbsx _
  | rolZp _ | rolZpx _ | rolAbs _ | rolAbsx _ | rorZp _ | rorZpx _ | rorAbs _ | rorAbsx _
  | incZp _ | incZpx _ | incAbs _ | incAbsx _ | decZp _ | decZpx _ | decAbs _ | decAbsx _
  | aslAcc | lsrAcc | rolAcc | rorAcc | txa | tya | tax | tsx | tay | txs | inx | dex | iny | dey | pha | php | pla | plp
  | jmpAbs _ | jmpInd _ | jsr _ | rts | brk | rti | clc | sec | clv | cli | sei | cld | sed | nop =>
    exact fixed_cyclesAllowed rfl rfl h
  | bpl _ | bmi _ | bvc _ | bvs _ | bcc _ | bcs _ | bne _ | beq _ => exact branchIf_cyclesAllowed rfl rfl h
  | nopStarImp _ | nopStarImm _ _ | nopStarZp _ _ | nopStarZpx _ _ | nopStarZpy _ _ | nopStarAbs _ _ | nopStarAbsx _ _
  | nopStarAbsy _ _ | nopStarIndx _ _ | nopStarIndy _ _ => exact nopEquivalent_cyclesAllowed hw h

end Sys2Proof.Machine
end

section
/-! SUPPORT. The addressing modes in numbers (30_encoding R108 to R116). -/

namespace Sys2Proof.Machine

@[simp] theorem zext16_toNat (b : Byte) : (zext16 b).toNat = b.toNat := by
  have := b.isLt
  simp [zext16]
  omega

@[simp] theorem joinBytes_toNat (hi lo : Byte) : (joinBytes hi lo).toNat = lo.toNat + 256 * hi.toNat := by
  unfold joinBytes
  erw [BitVec.toNat_append]
  rw [← Nat.shiftLeft_add_eq_or_of_lt lo.isLt, Nat.shiftLeft_eq]
  omega

/-- An indexed address in numbers, and its page crossing. -/
theorem indexed_eq (base : Word) (index : Byte) (s : State) :
    let ea := (base.toNat + index.toNat) % 65536
    (indexed base index s).ea.toNat = ea ∧ (indexed base index s).crossed = decide (ea / 256 ≠ base.toNat / 256) := by
  have hea : (base + zext16 index).toNat = (base.toNat + index.toNat) % 65536 := by
    rw [BitVec.toNat_add, zext16_toNat]
  exact ⟨hea, by rw [← hea]; exact pageDiffers_eq _ _⟩

/-- A pointer in page zero, in numbers. -/
theorem memRead16zp_toNat (z : Byte) (s : State) :
    (memRead16zp z s).1.toNat = (Store.read s.ram z.toNat).toNat + 256 * (Store.read s.ram ((z.toNat + 1) % 256)).toNat := by
  rw [memRead16zp_eq, joinBytes_toNat, BitVec.toNat_add]
  rfl

/-- An operand with an address is one read at it. -/
theorem readOperand_of_not_imm {o : Operand} (h : ∀ b, o ≠ .imm b) (s : State) : readOperand o s =
    ⟨(memRead (resolve o s).ea s).1, (resolve o s).crossed, (memRead (resolve o s).ea s).2⟩ := by
  cases o with
  | imm b => exact absurd rfl (h b)
  | zp _ | zpx _ | zpy _ | abs _ | absx _ | absy _ | indx _ | indy _ => simp only [readOperand, resolve_state]

/-- Settles O12: each mode is a zero-extended byte, a word, a pointer in page zero, or one of these indexed. -/
theorem addressingModes : Obligations.AddressingModes := by
  intro s b1 w cell
  have hcell : cell b1.toNat = (Store.read s.ram b1.toNat).toNat := by
    simp only [cell, Nat.mod_eq_of_lt b1.isLt]
  have hindy := indexed_eq (memRead16zp b1 s).1 s.y (memRead16zp b1 s).2
  rw [memRead16zp_toNat, ← hcell] at hindy
  refine ⟨fun o => resolve_state o s, rfl, fun o h => readOperand_of_not_imm h s, ⟨zext16_toNat b1, rfl⟩,
    ⟨by simp [resolve], rfl⟩, ⟨by simp [resolve], rfl⟩, ⟨rfl, rfl⟩, indexed_eq w s.x s, indexed_eq w s.y s,
    ⟨?_, rfl⟩, hindy⟩
  simp only [resolve, memRead16zp_toNat, BitVec.toNat_add, cell]
  simp

end Sys2Proof.Machine
end

section
/-! SUPPORT. The fetch against the decoder, and the step that executes (30_encoding R102; 53_orchestrator R475, R477, R478). -/

namespace Sys2Proof.Machine

@[simp] theorem clockFrameCounter_stepCycles (n : Nat) (s : State) : (clockFrameCounter n s).stepCycles = s.stepCycles := by
  rw [clockFrameCounter_effects n s]

theorem fetch_one {s : State} (h : opLength (memRead s.pc s).1 = 1) :
    let r0 := memRead s.pc s
    fetch s = (buildInstr r0.1 0 0, r0.2.setPc (s.pc + 1)) := by
  unfold fetch
  dsimp only
  rw [h]
  rfl

theorem fetch_two {s : State} (h : opLength (memRead s.pc s).1 = 2) :
    let r0 := memRead s.pc s
    let r1 := memRead (s.pc + 1) r0.2
    fetch s = (buildInstr r0.1 r1.1 0, r1.2.setPc (s.pc + 2)) := by
  unfold fetch
  dsimp only
  rw [h]
  rfl

theorem fetch_three {s : State} (h : opLength (memRead s.pc s).1 = 3) :
    let r0 := memRead s.pc s
    let r1 := memRead (s.pc + 1) r0.2
    let r2 := memRead (s.pc + 2) r1.2
    fetch s = (buildInstr r0.1 r1.1 r2.1, r2.2.setPc (s.pc + 3)) := by
  unfold fetch
  dsimp only
  rw [h]
  rfl

/-- The fetch is the decoder on the bytes from PC on, which are read only as far as the instruction is long. -/
theorem fetch_of_decode {s : State} {i : Instr} {left : List Byte} :
    let r0 := memRead s.pc s
    let r1 := memRead (s.pc + 1) r0.2
    let r2 := memRead (s.pc + 2) r1.2
    decode [r0.1, r1.1, r2.1] = .ok (i, left) →
    fetch s = (i, (if i.length = 1 then r0.2 else if i.length = 2 then r1.2 else r2.2).setPc
      (s.pc + BitVec.ofNat 16 i.length)) := by
  intro r0 r1 r2 h
  obtain hl | hl | hl := opLength_cases r0.1
  · rw [decode_one hl] at h
    cases h
    rw [fetch_one hl, buildInstr_length, hl]
    rfl
  · rw [decode_two hl] at h
    cases h
    rw [fetch_two hl, buildInstr_length, hl]
    rfl
  · rw [decode_three hl] at h
    cases h
    rw [fetch_three hl, buildInstr_length, hl]
    rfl

/-- With nothing to stall for and nothing to take, a CPU step is the instruction at PC. -/
theorem emulate_instruction {s : State} (hstall : s.cyclesToHalt = 0) (hreset : s.resetMark = false)
    (hnmi : s.nmiPending = false) (hirq : s.irqPending = false) : emulate s = instructionStep s := by
  simp [emulate, sample, hstall, hreset, hnmi, hirq]

/-- Settles O5: the frame's start leaves what is sampled, and the fetch is the decoder. -/
theorem stepRunsDecodedInstruction : Obligations.StepRunsDecodedInstruction := by
  intro s s0 i left hrun hstall hreset hnmi hirq hs0 r0 r1 r2 hdecode fetched
  have hturn : step s = loopTurn s0 := by
    simp only [step, frameTurn, hrun, hs0]
  have hsampled : emulate s0 = instructionStep s0 := by
    subst hs0
    split <;> exact emulate_instruction hstall hreset hnmi hirq
  have hemulate : emulate s0 = exec i { fetched with pc := s0.pc + BitVec.ofNat 16 i.length } := by
    rw [hsampled, instructionStep, fetch_of_decode hdecode]
    rfl
  rw [hturn, loopTurn, hemulate]
  cases exec i { fetched with pc := s0.pc + BitVec.ofNat 16 i.length } with
  | next t => simp only [runDevices, clockFrameCounter_stepCycles]
  | fault r => rfl
  | refused r => rfl

end Sys2Proof.Machine
end

section
/-! SUPPORT. The load and store forms against the shape of instruction each one runs as (40_load_store R131 to R136). -/

namespace Sys2Proof.Machine

variable {i : Instr} {r : Reg} {f : OperandForm}

/-! ## Loads -/

theorem opcode_of_loadForm (h : loadForm i = some (r, f)) : i.opcode = f.opcode := by
  unfold loadForm at h
  split at h <;> cases h <;> rfl

/-- A load form runs as one load of its register. -/
theorem exec_loadForm (h : loadForm i = some (r, f)) (s : State) :
    exec i s = loadRegister (fun u v => u.withReg r v) f.operand f.cycles s := by
  unfold loadForm at h
  split at h <;> cases h <;> rfl

/-- A load is marked for the page-cross penalty just when its operand can cross a page (30_encoding R105). -/
theorem pageCycle_of_loadForm (h : loadForm i = some (r, f)) : f.pageCycle = f.operand.canCross := by
  unfold loadForm at h
  split at h <;> cases h <;> rfl

/-- A form marked for the penalty just when its operand can cross takes one cycle more on each crossing. -/
theorem total_of_canCross (h : f.pageCycle = f.operand.canCross) (s : State) :
    f.total (readOperand f.operand s).crossed = f.cycles + penalty (readOperand f.operand s).crossed :=
  total_of_penalty (fun hp => neverCrosses_of_canCross (h.symm.trans hp)) f.opcode f.cycles s

/-- Settles O13: each form is one load of its register, whose cycles are the form's, penalty included. -/
theorem loadsLoad : Obligations.LoadsLoad := by
  intro i r f s h
  refine ⟨opcode_of_loadForm h, ?_⟩
  intro o
  rw [exec_loadForm h, loadRegister_eq (fun _ _ => rfl), total_of_canCross (pageCycle_of_loadForm h)]

/-! ## Stores -/

theorem opcode_of_storeForm (h : storeForm i = some (r, f)) : i.opcode = f.opcode := by
  unfold storeForm at h
  split at h <;> cases h <;> rfl

/-- Settles O14: each form is one store of its register, in the form's cycles. -/
theorem storesStore : Obligations.StoresStore := by
  intro i r f s h
  exact ⟨opcode_of_storeForm h, by rw [exec_storeForm h, storeValue_eq]⟩

end Sys2Proof.Machine
end

section
/-! SUPPORT. The transfers as register moves (41_transfer_stack R150 to R155), and the stack instructions as one push or one
pull of page 1 (R156 to R159). -/

namespace Sys2Proof.Machine

variable {i : Instr} {src dst : Reg} {op : Byte}

/-! ## Transfers -/

theorem encode_of_transferForm (h : transferForm i = some (src, dst, op)) : encode i = [op] := by
  unfold transferForm at h
  split at h <;> cases h <;> rfl

/-- A transfer to A, X or Y runs as a register move, which sets N and Z (41_transfer_stack R150 to R154). -/
theorem exec_transferForm (h : transferForm i = some (src, dst, op)) (hdst : dst ≠ .sp) (s : State) :
    exec i s = moveRegister (fun u v => u.withReg dst v) (s.reg src) 2 s := by
  unfold transferForm at h
  split at h <;> cases h
  case h_3 => exact absurd rfl hdst -- TXS, whose destination is S
  all_goals rfl

/-- The transfer to S writes S alone: it sets no flag (41_transfer_stack R155). -/
theorem exec_transferForm_sp (h : transferForm i = some (src, .sp, op)) (s : State) :
    exec i s = .next { s.withReg .sp (s.reg src) with stepCycles := 2 } := by
  unfold transferForm at h
  split at h <;> cases h
  rfl

/-- Settles O15: TXS writes S alone, each other transfer is a register move. -/
theorem transfersMove : Obligations.TransfersMove := by
  intro i src dst op s h
  refine ⟨encode_of_transferForm h, ?_⟩
  by_cases hdst : dst = .sp
  · subst hdst
    exact exec_transferForm_sp h s
  · rw [exec_transferForm h hdst, moveRegister_eq (fun _ _ => rfl), if_neg hdst]

/-! ## The stack instructions -/

/-- The cell a pull reads: the one after S, within page 1 (10_state R25). -/
theorem stackCell_above (sp : Byte) : 256 + (sp + 1).toNat = 256 + (sp.toNat + 1) % 256 := by
  rw [BitVec.toNat_add]
  rfl

/-- A push of `v` in `c` cycles answers one byte of page 1 and S (41_transfer_stack R156, R157). -/
theorem finish_push_eq (c : Nat) (v : Byte) (s : State) : finish c (push v s) =
    .next { s with ram := Store.write s.ram (256 + s.sp.toNat) v, sp := s.sp - 1, stepCycles := c } := by
  rw [push_eq]
  rfl

/-- Settles O16: PHA and PHP are one push, PLA moves a pulled byte to A, PLP pulls the six flags. -/
theorem stackInstructions : Obligations.StackInstructions := by
  intro s v
  have hpull : pull s = (v, { s with sp := s.sp + 1 }) := by rw [pull_eq, stackCell_above]
  refine ⟨⟨rfl, ?pha⟩, ⟨rfl, ?php⟩, ⟨rfl, ?pla⟩, rfl, ?plp⟩
  case pha => exact finish_push_eq 3 s.a s
  case php =>
    rw [← image_eq_statusByte]
    exact finish_push_eq 3 (s.p.image true) s
  case pla =>
    change moveRegister State.setA (pull s).1 4 (pull s).2 = _
    rw [hpull]
    exact moveRegister_eq (r := .a) (fun _ _ => rfl) v 4 _
  case plp =>
    change finish 4 ((pull s).2.setP (Flags.ofByte (pull s).1)) = _
    rw [hpull]
    rfl

end Sys2Proof.Machine
end

section
/-! SUPPORT. The arithmetic, logic, compare and bit test forms against the shape of instruction each one runs as
(42_arith_logic R170 to R178). -/

namespace Sys2Proof.Machine

variable {i : Instr} {op : AluOp} {r : Reg} {f : OperandForm}

/-! ## Operations on A and an operand -/

/-- The model's value function of an operation on A and an operand. -/
def aluValue : AluOp → Byte → Byte → Flags → Byte × Flags
  | .adc => adcValue
  | .sbc => sbcValue
  | .and => andValue
  | .ora => oraValue
  | .eor => eorValue

/-- Each value function gives the result, the carry and the overflow of `aluResult`. -/
theorem aluValue_eq (op : AluOp) (a m : Byte) (p : Flags) :
    let r := aluResult op a m p.c p.v
    aluValue op a m p = (BitVec.ofNat 8 r.1, { withNZ p (BitVec.ofNat 8 r.1) with c := r.2.1, v := r.2.2 }) := by
  cases op with
  | adc => exact adcValue_eq a m p
  | sbc => exact sbcValue_eq a m p
  | and => exact andValue_eq a m p
  | ora => exact oraValue_eq a m p
  | eor => exact eorValue_eq a m p

theorem opcode_of_aluForm (h : aluForm i = some (op, f)) : i.opcode = f.opcode := by
  unfold aluForm at h
  split at h <;> cases h <;> rfl

/-- An arithmetic or logic form runs its operation on A and its operand. -/
theorem exec_aluForm (h : aluForm i = some (op, f)) (s : State) :
    exec i s = accumulate (aluValue op) f.operand f.cycles s := by
  unfold aluForm at h
  split at h <;> cases h <;> rfl

/-- An arithmetic or logic form is marked for the page-cross penalty just when its operand can cross (30_encoding R105). -/
theorem pageCycle_of_aluForm (h : aluForm i = some (op, f)) : f.pageCycle = f.operand.canCross := by
  unfold aluForm at h
  split at h <;> cases h <;> rfl

/-- Settles O17: each form is its operation on A and the operand, whose value function is `aluResult` in numbers. -/
theorem aluComputes : Obligations.AluComputes := by
  intro i op f s h
  refine ⟨opcode_of_aluForm h, ?_⟩
  intro o r
  rw [exec_aluForm h, accumulate_eq (aluValue_eq op), total_of_canCross (pageCycle_of_aluForm h)]

/-! ## Compares -/

theorem opcode_of_compareForm (h : compareForm i = some (r, f)) : i.opcode = f.opcode := by
  unfold compareForm at h
  split at h <;> cases h <;> rfl

/-- A compare form runs as one compare of its register. -/
theorem exec_compareForm (h : compareForm i = some (r, f)) (s : State) :
    exec i s = compareWith (s.reg r) f.operand f.cycles s := by
  unfold compareForm at h
  split at h <;> cases h <;> rfl

/-- A compare is marked for the page-cross penalty just when its operand can cross (30_encoding R105). -/
theorem pageCycle_of_compareForm (h : compareForm i = some (r, f)) : f.pageCycle = f.operand.canCross := by
  unfold compareForm at h
  split at h <;> cases h <;> rfl

/-! ## The bit test -/

theorem opcode_of_bitForm (h : bitForm i = some f) : i.opcode = f.opcode := by
  unfold bitForm at h
  split at h <;> cases h <;> rfl

/-- A bit test form runs as one bit test. -/
theorem exec_bitForm (h : bitForm i = some f) (s : State) : exec i s = bitTest f.operand f.cycles s := by
  unfold bitForm at h
  split at h <;> cases h <;> rfl

/-- Settles O18: each form is one compare of its register, or one bit test. -/
theorem comparesAndBitTest : Obligations.ComparesAndBitTest := by
  intro i f s o
  refine ⟨fun r h => ⟨opcode_of_compareForm h, ?compare⟩, fun h => ⟨opcode_of_bitForm h, ?bit⟩⟩
  case compare => rw [exec_compareForm h, compareWith_eq, total_of_canCross (pageCycle_of_compareForm h)]
  case bit =>
    rw [exec_bitForm h, bitTest_eq]
    rfl

end Sys2Proof.Machine
end

section
/-! SUPPORT. The read-modify-write, accumulator and register count forms against the shape of instruction each one runs as
(43_shift_incdec R190 to R200). -/

namespace Sys2Proof.Machine

variable {i : Instr} {op : ByteOp} {f : OperandForm} {r : Reg} {d opcode : Byte}

/-! ## Operations on one byte -/

/-- Each value function gives the result and the carry of `byteResult`. -/
theorem byteValueIs_byteValue (op : ByteOp) : ByteValueIs op (byteValue op) := by
  cases op with
  | asl => exact aslValue_eq
  | lsr => exact lsrValue_eq
  | rol => exact rolValue_eq
  | ror => exact rorValue_eq
  | inc => exact incValue_eq
  | dec => exact decValue_eq

theorem opcode_of_modifyForm (h : modifyForm i = some (op, f)) : i.opcode = f.opcode := by
  unfold modifyForm at h
  split at h <;> cases h <;> rfl

/-- Settles O19: each form is one read and one write of its operation's value, which is `byteResult` in numbers. -/
theorem modifiesModify : Obligations.ModifiesModify := by
  intro i op f s h
  refine ⟨opcode_of_modifyForm h, ?_⟩
  intro ea m r
  rw [exec_modifyForm h, modifyMemory_eq (byteValueIs_byteValue op)]

theorem encode_of_accumulatorForm (h : accumulatorForm i = some (op, opcode)) : encode i = [opcode] := by
  unfold accumulatorForm at h
  split at h <;> cases h <;> rfl

/-- An accumulator form runs its operation on A, in 2 cycles. -/
theorem exec_accumulatorForm (h : accumulatorForm i = some (op, opcode)) (s : State) :
    exec i s = modifyAccumulator (byteValue op) 2 s := by
  unfold accumulatorForm at h
  split at h <;> cases h <;> rfl

/-- Settles O20: each form is its operation on A, whose value function is `byteResult` in numbers. -/
theorem accumulatorShifts : Obligations.AccumulatorShifts := by
  intro i op opcode s h
  refine ⟨encode_of_accumulatorForm h, ?_⟩
  intro r
  rw [exec_accumulatorForm h, modifyAccumulator_eq (byteValueIs_byteValue op)]

/-! ## Register counts -/

theorem encode_of_countForm (h : countForm i = some (r, d, opcode)) : encode i = [opcode] := by
  unfold countForm at h
  split at h <;> cases h <;> rfl

/-- A decrement counts by 255 modulo 256. -/
theorem sub_one_eq_add_255 (v : Byte) : v - 1 = v + 0xFF#8 := BitVec.sub_eq_add_neg v 1

/-- A count runs as a register move of the register and its amount, added modulo 256 (43_shift_incdec R196 to R199). -/
theorem exec_countForm (h : countForm i = some (r, d, opcode)) (s : State) :
    exec i s = moveRegister (fun u v => u.withReg r v) (s.reg r + d) 2 s := by
  unfold countForm at h
  split at h <;> cases h
  case h_1 => exact congrArg (moveRegister State.setY · 2 s) (sub_one_eq_add_255 s.y) -- DEY
  case h_3 => exact congrArg (moveRegister State.setX · 2 s) (sub_one_eq_add_255 s.x) -- DEX
  all_goals rfl

/-- Settles O21: each form is a register move of the sum, which is taken modulo 256. -/
theorem countsCount : Obligations.CountsCount := by
  intro i r d op s h
  refine ⟨encode_of_countForm h, ?_⟩
  intro v
  have hv : s.reg r + d = v := BitVec.eq_of_toNat_eq (by simp [v])
  rw [exec_countForm h, hv, moveRegister_eq (fun _ _ => rfl)]

end Sys2Proof.Machine
end

section
/-! SUPPORT. The branch forms as one branch, the jumps, and the call and the return as two bytes of page 1
(44_control R210 to R221). -/

namespace Sys2Proof.Machine

variable {i : Instr} {cond : Flags → Bool} {b1 op : Byte}

/-! ## The branches -/

theorem encode_of_branchForm (h : branchForm i = some (cond, b1, op)) : encode i = [op, b1] := by
  unfold branchForm at h
  split at h <;> cases h <;> rfl

/-- A branch form runs as one branch on its condition. -/
theorem exec_branchForm (h : branchForm i = some (cond, b1, op)) (s : State) : exec i s = branchIf (cond s.p) b1 s := by
  unfold branchForm at h
  split at h <;> cases h <;> rfl

/-- Settles O24: each form is one branch on its condition, whose target and page are taken in numbers. -/
theorem branchesBranch : Obligations.BranchesBranch := by
  intro i cond b1 op s h
  refine ⟨encode_of_branchForm h, ?_⟩
  rw [exec_branchForm h]
  exact branchIf_eq (cond s.p) b1 s

/-! ## The jumps -/

theorem hiByte_toNat (w : Word) : (hiByte w).toNat = w.toNat / 256 := by
  have hw := w.isLt
  rw [hiByte, BitVec.extractLsb'_toNat, Nat.shiftRight_eq_div_pow]
  omega

theorem loByte_toNat (w : Word) : (loByte w).toNat = w.toNat % 256 := by
  rw [loByte, BitVec.extractLsb'_toNat]
  rfl

/-- The second byte of a jump pointer stands in the page of the first (44_control R210; 30_encoding R118). -/
theorem pointerHigh_eq (w : Word) :
    joinBytes (hiByte w) (loByte w + 1) = BitVec.ofNat 16 (w.toNat / 256 * 256 + (w.toNat + 1) % 256) := by
  have hw := w.isLt
  have hlow : (loByte w + 1).toNat = (w.toNat + 1) % 256 := by
    rw [BitVec.toNat_add, loByte_toNat]
    exact Nat.mod_add_mod w.toNat 256 1
  apply BitVec.eq_of_toNat_eq
  rw [joinBytes_toNat, hlow, hiByte_toNat, BitVec.toNat_ofNat]
  omega

/-- Settles O22: the absolute form sets PC alone; the pointer's second address is that of R118 in numbers. -/
theorem jumpsJump : Obligations.JumpsJump := by
  intro w s
  refine ⟨rfl, rfl, rfl, ?_⟩
  rw [← pointerHigh_eq]
  rfl

/-! ## The call and the return -/

/-- Settles O23: JSR is one two-byte push and RTS one two-byte pull, each with its PC. -/
theorem callAndReturn : Obligations.CallAndReturn := by
  intro w s
  have hdown : s.sp - 1 - 1 = s.sp - 2 := BitVec.sub_sub s.sp 1 1
  have hup : s.sp + 1 + 1 = s.sp + 2 := BitVec.add_assoc s.sp 1 1
  refine ⟨rfl, rfl, ?jsr, ?rts⟩
  case jsr =>
    change finish 6 ((push16 (s.pc - 1) s).setPc w) = _
    rw [push16_eq, hdown]
    rfl
  case rts =>
    change finish 6 ((pull16 s).2.setPc ((pull16 s).1 + 1)) = _
    rw [pull16_eq, hup]
    rfl

end Sys2Proof.Machine
end

section
/-! SUPPORT. BRK as one exception entry and RTI as one exception return, the flag instructions as one update of the flags,
and the undocumented rows as NOP-equivalents (45_system_flags R230 to R240; 30_encoding R122). -/

namespace Sys2Proof.Machine

variable {i : Instr} {g : Flags → Flags} {op : Byte} {c : Nat}

/-! ## The software trap and its return -/

/-- Settles O25: BRK is one exception entry through `$FFFE`, from the address past its padding byte and with B = 1. -/
theorem brkTraps : Obligations.BrkTraps := by
  intro s
  have hdown2 : s.sp - 1 - 1 = s.sp - 2 := BitVec.sub_sub s.sp 1 1
  have hdown3 : s.sp - 2 - 1 = s.sp - 3 := BitVec.sub_sub s.sp 2 1
  refine ⟨rfl, ?_⟩
  change finish 7 (takeException (s.pc + 1) true irqVector s) = _
  rw [takeException_eq _ _ _ _ (by decide) (by decide), image_eq_statusByte, hdown2, hdown3]
  rfl

/-- Settles O26: RTI is one exception return, which pulls the flags and then PC. -/
theorem rtiRestores : Obligations.RtiRestores := by
  intro s
  have hup2 : s.sp + 1 + 1 = s.sp + 2 := BitVec.add_assoc s.sp 1 1
  have hup3 : s.sp + 2 + 1 = s.sp + 3 := BitVec.add_assoc s.sp 2 1
  refine ⟨rfl, ?_⟩
  change finish 6 (returnFromException s) = _
  rw [returnFromException_eq, hup2, hup3]
  rfl

/-! ## The flag instructions -/

theorem encode_of_flagForm (h : flagForm i = some (g, op)) : encode i = [op] := by
  unfold flagForm at h
  split at h <;> cases h <;> rfl

/-- A flag form runs as its update of the flags, in 2 cycles (45_system_flags R232 to R238). -/
theorem exec_flagForm (h : flagForm i = some (g, op)) (s : State) : exec i s = finish 2 (s.setP (g s.p)) := by
  unfold flagForm at h
  split at h <;> cases h <;> rfl

/-- Settles O28: each form is its update of the flags alone. -/
theorem flagInstructions : Obligations.FlagInstructions := by
  intro i g op s h
  exact ⟨encode_of_flagForm h, exec_flagForm h s⟩

/-! ## The instructions without effect -/

/-- An undocumented row runs as a NOP-equivalent of its shape's cycles (45_system_flags R240). -/
theorem exec_undocumentedForm (h : undocumentedForm i = some (op, c)) (s : State) : exec i s = nopEquivalent op c s := by
  unfold undocumentedForm at h
  split at h <;> cases h <;> rfl

/-- What a NOP-equivalent answers under the policy `refuse` (30_encoding R122; log 12). -/
theorem nopEquivalent_refused (op : Byte) (c : Nat) (s : State) (h : s.cfg.illegalPolicy = .refuse) :
    nopEquivalent op c s = .refused (.undocumentedOpcode op) := by
  unfold nopEquivalent
  rw [h]

/-- Settles O29: NOP only sets the cycles; an undocumented row is a NOP-equivalent, which the policy completes or refuses. -/
theorem noOperations : Obligations.NoOperations := by
  intro s
  refine ⟨⟨rfl, rfl⟩, fun i op c h => ?_⟩
  rw [exec_undocumentedForm h]
  exact ⟨nopEquivalent_eq op c s, nopEquivalent_refused op c s⟩

end Sys2Proof.Machine
end

section
/-! SUPPORT. The raster position over a bus write, a dot, the start of a frame and a reset, so over every step (50_ppu R303 to
R306, R310). -/

namespace Sys2Proof.Machine

/-- Two PPU states agree on the raster position and the frame end. -/
structure SameRaster (u v : Ppu) : Prop where
  scanline        : v.scanline = u.scanline := by rfl
  curX            : v.curX = u.curX := by rfl
  requestEndFrame : v.requestEndFrame = u.requestEndFrame := by rfl
  nmiCounter      : v.nmiCounter = u.nmiCounter := by rfl

theorem SameRaster.trans {u v w : Ppu} (h : SameRaster u v) (k : SameRaster v w) : SameRaster u w :=
  ⟨k.scanline.trans h.scanline, k.curX.trans h.curX, k.requestEndFrame.trans h.requestEndFrame,
    k.nmiCounter.trans h.nmiCounter⟩

theorem SameRaster.of_own {s t : State} (e : OnlyOwnEffects s t) : SameRaster s.ppu t.ppu := by
  rw [e]
  exact {}

theorem SameRaster.of_read {s t : State} (e : OnlyReadEffects s t) : SameRaster s.ppu t.ppu := .of_own (ownEffects_of_read e)

/-- A write to a PPU register moves no dot. -/
theorem ppuRegWrite_raster (r : Nat) (v : Byte) (s : State) : SameRaster s.ppu (ppuRegWrite r v s).ppu := by
  unfold ppuRegWrite
  split
  case h_6 =>
    dsimp only [Ppu.writeScroll]
    split <;> exact {}
  case h_7 =>
    dsimp only [Ppu.writeAddr]
    split <;> exact {}
  case h_8 =>
    unfold ppuWriteData ppuWrite chrWrite
    dsimp only
    split_ifs <;> exact {}
  all_goals exact {}

theorem dmaCopy_raster (n i : Nat) (page : Byte) (s : State) : SameRaster s.ppu (dmaCopy n i page s).ppu := by
  induction n generalizing i s with
  | zero => exact {}
  | succ n ih =>
    have hread := SameRaster.of_read (memRead_effects (joinBytes page (BitVec.ofNat 8 i)) s)
    refine (hread.trans ?_).trans (ih _ _)
    exact {}

/-- A CPU-bus write moves no dot. -/
theorem memWrite_raster (a : Word) (v : Byte) (s : State) : SameRaster s.ppu (memWrite a v s).ppu := by
  unfold memWrite
  cases busTarget a with
  | ppuReg r => exact ppuRegWrite_raster r v s
  | oamDma => exact dmaCopy_raster 256 0 v s
  | prg =>
    dsimp only
    rw [mapperWrite8_mapperEffects a v s]
    exact {}
  | port1 =>
    dsimp only [writeStrobe]
    split <;> exact {}
  | cartRam i =>
    dsimp only
    split <;> exact {}
  | ram _ | apuChannel _ | apuStatus | port2 | nothing | expansion => exact {}

/-- `State.rasterOk` part by part (50_ppu R310). -/
structure RasterOk (s : State) : Prop where
  scanline : s.ppu.scanline < s.cfg.scanlinesPerFrame
  curX     : s.ppu.curX ≤ 340
  toCome   : s.ppu.requestEndFrame = true → 1 ≤ s.ppu.nmiCounter
  delay    : 1 ≤ s.cfg.nmiDelayDots

theorem rasterOk_iff (s : State) : s.rasterOk = true ↔ RasterOk s := by
  simp only [State.rasterOk, Bool.and_eq_true, Bool.or_eq_true, Bool.not_eq_true', decide_eq_true_eq]
  constructor
  · rintro ⟨⟨⟨⟨hl, hx⟩, hr⟩, -⟩, hd⟩
    exact ⟨hl, hx, fun h => hr.resolve_left (by simp [h]), hd⟩
  · rintro ⟨hl, hx, hr, hd⟩
    refine ⟨⟨⟨⟨hl, hx⟩, ?_⟩, by omega⟩, hd⟩
    cases h : s.ppu.requestEndFrame with
    | false => exact .inl rfl
    | true => exact .inr (hr h)

/-- The raster stays inside the frame where the position, the frame end and the parameters stay. -/
theorem RasterOk.congr {s t : State} (h : RasterOk s) (e : SameRaster s.ppu t.ppu) (hcfg : t.cfg = s.cfg) : RasterOk t := by
  obtain ⟨hl, hx, hr, hn⟩ := e
  exact ⟨hl ▸ hcfg ▸ h.scanline, hx ▸ h.curX, hr ▸ hn ▸ h.toCome, hcfg ▸ h.delay⟩

/-- The end of a scanline stays inside the frame: the last one starts the next frame, any other the next scanline. -/
theorem endScanline_rasterOk (s : State) (h : RasterOk s) : RasterOk (endScanline s) := by
  obtain ⟨hl, hx, hr, hd⟩ := h
  have hcfg := (sameParameters_of_dot (endScanline_effects s)).1
  by_cases hlast : s.ppu.scanline + 1 = s.cfg.scanlinesPerFrame
  · rw [endScanline_last s hlast]
    exact ⟨Nat.zero_lt_of_lt hl, hx, fun _ => hd, hd⟩
  · obtain ⟨h1, h2, h3, h4, -⟩ := endScanline_position s hlast
    exact ⟨by rw [h1, hcfg]; omega, by omega, by rw [h3, h4]; exact hr, by rw [hcfg]; exact hd⟩

/-- The next position is inside the frame: the next dot of the scanline, or the end of the scanline. -/
theorem advanceDot_rasterOk (s : State) (h : RasterOk s) : RasterOk (advanceDot s) := by
  unfold advanceDot
  split
  case isTrue => exact endScanline_rasterOk _ ⟨h.scanline, Nat.zero_le _, h.toCome, h.delay⟩
  case isFalse hx =>
    have := h.curX
    exact ⟨h.scanline, by dsimp only; omega, h.toCome, h.delay⟩

/-- A dot with no frame end due goes on over the counted PPU. -/
theorem ppuDot_goes_of_not_due (s : State) (h : ¬ (s.ppu.requestEndFrame = true ∧ s.ppu.nmiCounter ≤ 1)) :
    ppuDot s = (false, advanceDot { s with ppu := countedPpu s.ppu }) :=
  ppuDot_goes s fun hreq => Nat.lt_of_not_le fun h1 => h ⟨hreq, h1⟩

/-- A dot keeps the raster inside the frame: it ends the frame in place, or counts the debounce and moves on. -/
theorem ppuDot_rasterOk (s : State) (h : RasterOk s) : RasterOk (ppuDot s).2 := by
  by_cases hend : s.ppu.requestEndFrame = true ∧ s.ppu.nmiCounter ≤ 1
  · obtain ⟨-, hr, hl, hx, -⟩ := ppuDot_ends s hend.1 hend.2
    have hcfg := (sameParameters_of_dot (ppuDot_effects s)).1
    exact ⟨by rw [hl, hcfg]; exact h.scanline, by rw [hx]; exact h.curX, by simp [hr], by rw [hcfg]; exact h.delay⟩
  · rw [ppuDot_goes_of_not_due s hend]
    obtain ⟨hl, hx, hr, hn, -⟩ := countedPpu_fields s.ppu
    refine advanceDot_rasterOk _ ⟨hl ▸ h.scanline, hx ▸ h.curX, fun hreq => ?_, h.delay⟩
    have hreq : s.ppu.requestEndFrame = true := hr ▸ hreq
    have hdue : ¬ s.ppu.nmiCounter ≤ 1 := fun h1 => hend ⟨hreq, h1⟩
    dsimp only
    rw [hn, if_pos hreq]
    omega

/-- Every part of a step keeps the raster inside the frame. -/
theorem keeps_rasterOk : Keeps RasterOk where
  own e h       := h.congr (.of_own e) (by rw [e])
  write a v s h := h.congr (memWrite_raster a v s) (by rw [memWrite_effects a v s])
  dot           := ppuDot_rasterOk
  start _ h     := ⟨Nat.zero_lt_of_lt h.scanline, Nat.zero_le _, h.toCome, h.delay⟩
  reset s h     := by
    unfold performReset
    rw [resetWith_eq]
    exact ⟨Nat.zero_lt_of_lt h.scanline, Nat.zero_le _, fun h => absurd h Bool.false_ne_true, h.delay⟩

/-- Settles O54: each part of a step keeps the raster inside the frame, so every step does. -/
theorem rasterStaysInFrame : Obligations.RasterStaysInFrame := by
  intro s t hs h
  exact (rasterOk_iff t).2 (keeps_step keeps_rasterOk s t h ((rasterOk_iff s).1 hs))

end Sys2Proof.Machine
end

section
/-! SUPPORT. Runs of dots: the NMI debounce inside a scanline (50_ppu R303, R306, R307), the dots of a whole frame (R302, R304,
R306), and the sprite-0 flag over a dot (R305, R308). -/

namespace Sys2Proof.Machine

variable {s : State} {j k : Nat}

/-! ## The debounce -/

/-- `dots` dots of a debounce that stays in its scanline: the column and the counter move, what the NMI depends on stays. -/
structure Debounced (dots : Nat) (s t : State) : Prop where
  requestEndFrame : t.ppu.requestEndFrame = true
  nmiCounter      : t.ppu.nmiCounter = s.ppu.nmiCounter - dots
  curX            : t.ppu.curX = s.ppu.curX + dots
  ctrl            : t.ppu.ctrl = s.ppu.ctrl
  nmiPending      : t.nmiPending = s.nmiPending

/-- A dot that ends neither the frame nor the scanline only moves the column, over the counted PPU (50_ppu R303). -/
theorem ppuDot_inside (hgo : s.ppu.requestEndFrame = true → 2 ≤ s.ppu.nmiCounter) (hx : s.ppu.curX + 1 ≠ 341) :
    ppuDot s = (false, { s with ppu := { countedPpu s.ppu with curX := s.ppu.curX + 1 } }) := by
  obtain ⟨-, hcol, -⟩ := countedPpu_fields s.ppu
  rw [ppuDot_goes s hgo]
  unfold advanceDot
  dsimp only
  rw [hcol, if_neg hx]

/-- The debounce before its last dot. -/
theorem dotsAfter_debounced (hreq : s.ppu.requestEndFrame = true) (hn : j < s.ppu.nmiCounter) (hx : s.ppu.curX + j < 341) :
    Debounced j s (dotsAfter j s) := by
  induction j with
  | zero => exact ⟨hreq, rfl, rfl, rfl, rfl⟩
  | succ j ih =>
    obtain ⟨ir, inmi, ix, ic, ip⟩ := ih (by omega) (by omega)
    obtain ⟨-, -, cr, cn, cc, -⟩ := countedPpu_fields (dotsAfter j s).ppu
    rw [ir, if_pos rfl] at cn
    rw [dotsAfter_succ, ppuDot_inside (fun _ => by omega) (by omega)]
    exact ⟨cr.trans ir, by dsimp only; omega, by dsimp only; omega, cc.trans ic, ip⟩

/-- Settles O41: each of the first `k` dots finds two or more in the counter and goes on, the next one finds one and ends. -/
theorem nmiDebounce : Obligations.NmiDebounce := by
  intro k s hreq hn hx
  refine ⟨fun j hj => ?_, ?_⟩
  · obtain ⟨-, hnj, -⟩ := dotsAfter_debounced (j := j) hreq (by omega) (by omega)
    rw [ppuDot_goes _ fun _ => by omega]
  · obtain ⟨hrk, hnk, hxk, hck, hpk⟩ := dotsAfter_debounced (j := k) hreq (by omega) hx
    obtain ⟨hend, hr, -, hcol, hnmi⟩ := ppuDot_ends _ hrk (by omega)
    exact ⟨hend, hr, hcol.trans hxk, by rw [hnmi, hck, hpk]⟩

/-! ## The frame -/

theorem dotsAfter_add (m n : Nat) (s : State) : dotsAfter (m + n) s = dotsAfter n (dotsAfter m s) := by
  induction n with
  | zero => rfl
  | succ n ih => rw [← Nat.add_assoc, dotsAfter_succ, dotsAfter_succ, ih]

/-- The position is number `n` of the frame; a frame end is requested or not, and when it is, `c` is left in the counter. -/
structure RasterAt (n : Nat) (request : Bool) (c : Nat) (s : State) : Prop where
  number          : rasterNumber s = n
  scanline        : s.ppu.scanline < s.cfg.scanlinesPerFrame
  curX            : s.ppu.curX ≤ 340
  requestEndFrame : s.ppu.requestEndFrame = request
  nmiCounter      : request = true → s.ppu.nmiCounter = c

variable {n c : Nat} {request : Bool}

/-- A dot with no frame end due ends no frame. -/
theorem RasterAt.goes (h : RasterAt n request c s) (hc : request = true → 2 ≤ c) : (ppuDot s).1 = false := by
  rw [ppuDot_goes s fun hreq => ?_]
  have hreq : request = true := h.requestEndFrame ▸ hreq
  rw [h.nmiCounter hreq]
  exact hc hreq

/-- The dots of one frame from its start, before its last position and before a requested frame end is due. -/
theorem dotsAfter_rasterAt (hs : s.cfg.oddFrameSkip = false) (h0 : RasterAt 0 request c s)
    (hj : j < s.cfg.scanlinesPerFrame * 341) (hc : request = true → j < c) :
    RasterAt j request (c - j) (dotsAfter j s) := by
  induction j with
  | zero => exact h0
  | succ j ih =>
    obtain ⟨hnum, hl, hx, rfl, hn⟩ := ih (by omega) fun hreq => by have := hc hreq; omega
    have hcfg := dotsAfter_cfg j s
    obtain ⟨-, hx', hl', hnext, -⟩ := ppuDot_rasterNumber _ (by rwa [hcfg]) hx hl fun hreq => by
      have := hc hreq
      rw [hn hreq]
      omega
    obtain ⟨hnum', hr', hn'⟩ := hnext (by rw [hnum, hcfg]; exact hj)
    rw [dotsAfter_succ]
    refine ⟨by omega, by rwa [(sameParameters_of_dot (ppuDot_effects _)).1], hx', hr', fun hreq => ?_⟩
    rw [hn', if_pos hreq, hn hreq]
    omega

/-- The dots of all scanlines of a frame: back at its start, with the frame end requested and the whole debounce left. -/
theorem dotsAfter_frame (hs : s.cfg.oddFrameSkip = false) (h0 : RasterAt 0 false c s) (hpos : 0 < s.cfg.scanlinesPerFrame) :
    RasterAt 0 true s.cfg.nmiDelayDots (dotsAfter (s.cfg.scanlinesPerFrame * 341) s) := by
  obtain ⟨last, hlast⟩ : ∃ last, s.cfg.scanlinesPerFrame * 341 = last + 1 := ⟨_, (Nat.sub_add_cancel (by omega)).symm⟩
  obtain ⟨hnum, hl, hx, hr, -⟩ := dotsAfter_rasterAt (j := last) hs h0 (by omega) (by simp)
  have hcfg := dotsAfter_cfg last s
  obtain ⟨-, hx', hl', -, hwrap⟩ := ppuDot_rasterNumber _ (by rwa [hcfg]) hx hl (by simp [hr])
  obtain ⟨hnum', hr', hn'⟩ := hwrap (by rw [hnum, hcfg, hlast])
  rw [hlast, dotsAfter_succ]
  exact ⟨hnum', by rwa [(sameParameters_of_dot (ppuDot_effects _)).1], hx', hr', fun _ => by rw [hn', hcfg]⟩

/-- Settles O42: no dot of the scanlines ends the frame, the last of them requests its end, and the debounce follows. -/
theorem frameLength : Obligations.FrameLength := by
  intro s hpos hs hdelay hdelay' hl hx hr last
  have h0 : RasterAt 0 false 0 s := ⟨by simp [rasterNumber, hl, hx], by omega, by omega, hr, by simp⟩
  have hcfg := dotsAfter_cfg (s.cfg.scanlinesPerFrame * 341) s
  have hwait : ∀ i, i < s.cfg.nmiDelayDots → RasterAt i true (s.cfg.nmiDelayDots - i)
      (dotsAfter (s.cfg.scanlinesPerFrame * 341 + i) s) := fun i hi => by
    rw [dotsAfter_add]
    exact dotsAfter_rasterAt (by rwa [hcfg]) (dotsAfter_frame hs h0 hpos) (by rw [hcfg]; omega) fun _ => hi
  constructor
  · intro j hj
    obtain hlt | hge := Nat.lt_or_ge j (s.cfg.scanlinesPerFrame * 341)
    · exact (dotsAfter_rasterAt hs h0 hlt (by simp)).goes (by simp)
    · obtain ⟨i, rfl⟩ := Nat.exists_eq_add_of_le hge
      exact (hwait i (by omega)).goes fun _ => by omega
  · obtain ⟨-, -, -, hreq, hn⟩ := hwait (s.cfg.nmiDelayDots - 1) (by omega)
    rw [← Nat.add_sub_assoc hdelay] at hreq hn
    exact (ppuDot_ends _ hreq (by rw [hn rfl]; omega)).1

/-! ## The sprite-0 flag -/

@[simp] theorem countedPpu_spr0Hit (u : Ppu) : (countedPpu u).spr0Hit = u.sprite0Dot.spr0Hit := by
  unfold countedPpu
  split <;> rfl

/-- The end of a scanline keeps the flag, or it is the end of scanline 19, which clears it (50_ppu R305). -/
theorem endScanline_spr0Hit (s : State) : (endScanline s).ppu.spr0Hit = s.ppu.spr0Hit ∨
    (s.ppu.scanline = 19 ∧ (endScanline s).ppu.spr0Hit = false) := by
  by_cases hlast : s.ppu.scanline + 1 = s.cfg.scanlinesPerFrame
  · rw [endScanline_last s hlast]
    exact .inl rfl
  · obtain ⟨-, -, -, -, -, -, -, hkeep, hclear⟩ := endScanline_position s hlast
    by_cases h19 : s.ppu.scanline = 19
    · exact .inr ⟨h19, hclear h19⟩
    · exact .inl (hkeep h19)

/-- A dot sets the flag by its first part alone, and only the end of scanline 19 clears it. -/
theorem ppuDot_spr0Hit (s : State) : (ppuDot s).2.ppu.spr0Hit = s.ppu.sprite0Dot.spr0Hit ∨
    (s.ppu.scanline = 19 ∧ s.ppu.curX = 340 ∧ (ppuDot s).2.ppu.spr0Hit = false) := by
  by_cases hend : s.ppu.requestEndFrame = true ∧ s.ppu.nmiCounter ≤ 1
  · left
    obtain ⟨-, -, hr, hn, -⟩ := sprite0Dot_fields s.ppu
    unfold ppuDot startVBlank requestIrq
    simp only [hr, hn, hend.1, if_true, show s.ppu.nmiCounter - 1 = 0 by omega]
    split <;> rfl
  · obtain ⟨hl, hx, -⟩ := countedPpu_fields s.ppu
    rw [ppuDot_goes_of_not_due s hend]
    unfold advanceDot
    dsimp only
    rw [hx]
    split
    case isTrue h340 =>
      obtain hkeep | ⟨h19, hclear⟩ := endScanline_spr0Hit { s with ppu := { countedPpu s.ppu with curX := 0 } }
      · exact .inl (hkeep.trans (countedPpu_spr0Hit _))
      · exact .inr ⟨hl ▸ h19, by omega, hclear⟩
    case isFalse => exact .inl (countedPpu_spr0Hit _)

/-- The first part of a dot keeps the flag, or sets it at the configured position with sprites shown (50_ppu R303, R308). -/
theorem sprite0Dot_spr0Hit (u : Ppu) : u.sprite0Dot.spr0Hit = u.spr0Hit ∨
    (u.sprite0Dot.spr0Hit = true ∧ u.mask.getLsbD 4 = true ∧ u.spr0HitX = some u.curX ∧
      ∃ y, u.spr0HitY = some y ∧ y + 21 = u.scanline) := by
  unfold Ppu.sprite0Dot
  split
  case isTrue hit =>
    obtain ⟨hx, hmask, hy⟩ := hit
    exact .inr ⟨rfl, hmask, hx, Option.map_eq_some_iff.1 hy⟩
  case isFalse => exact .inl rfl

/-- Settles O43: the flag rises by the first part of a dot and falls by the end of a scanline. -/
theorem spriteZeroFlag : Obligations.SpriteZeroFlag := by
  intro s
  constructor
  · intro hrise
    obtain hdot | ⟨-, -, hclear⟩ := ppuDot_spr0Hit s
    · exact (sprite0Dot_spr0Hit s.ppu).imp (fun hkeep => by rw [← hkeep, ← hdot, hrise]) And.right
    · exact absurd hrise (by simp [hclear])
  · intro hset hfall
    obtain hdot | ⟨h19, h340, -⟩ := ppuDot_spr0Hit s
    · obtain hkeep | ⟨htrue, -⟩ := sprite0Dot_spr0Hit s.ppu
      · exact absurd hfall (by simp [hdot, hkeep, hset])
      · exact absurd hfall (by simp [hdot, htrue])
    · exact ⟨h19, h340⟩

end Sys2Proof.Machine
end

section
/-! SUPPORT. The PPU's status, scroll, address and data registers over the bus (50_ppu R322, R325 to R327; 20_memory R63, R72),
and sprite DMA from internal RAM (50_ppu R329; 20_memory R65, R86). -/

namespace Sys2Proof.Machine

variable {a : Word} {r : Nat}

theorem memWrite_ppuReg (h : isPpuRegister a r) (v : Byte) (s : State) : memWrite a v s = ppuRegWrite r v s := by
  unfold memWrite
  rw [busTarget_eq_ppuReg_iff.2 h]

/-! ## The status register -/

/-- A status byte: the three flags over five drawn bits (50_ppu R322). -/
theorem ppuReadStatus_bits (s : State) :
    (ppuReadStatus s).1.getLsbD 7 = s.ppu.vblank ∧ (ppuReadStatus s).1.getLsbD 6 = s.ppu.spr0Hit ∧
    (ppuReadStatus s).1.getLsbD 5 = s.ppu.sprOverflow ∧
    (ppuReadStatus s).1.extractLsb' 0 5 = (Config.openBus s.draws).extractLsb' 0 5 := by
  refine ⟨?_, ?_, ?_, BitVec.extractLsb'_append_eq_right⟩
  all_goals
    simp only [ppuReadStatus, BitVec.getLsbD_append]
    simp

/-- Settles O38: the register is read as the status byte, whose read takes one draw, and a write to it is lost. -/
theorem statusRegister : Obligations.StatusRegister := by
  intro a v s ha
  obtain ⟨hvblank, hspr0, hoverflow, hdrawn⟩ := ppuReadStatus_bits s
  rw [memRead_ppuReg ha, memWrite_ppuReg ha]
  exact ⟨hvblank, hspr0, hoverflow, hdrawn, rfl, rfl⟩

/-! ## The scroll and address registers -/

/-- The first scroll write: coarse X and fine X (50_ppu R325). -/
theorem writeScroll_first (u : Ppu) (v : Byte) (hw : u.w = false) : ∃ t : BitVec 15,
    u.writeScroll v = { u with t := t, fineX := v.extractLsb' 0 3, w := true } ∧
    t.extractLsb' 0 5 = v.extractLsb' 3 5 ∧ t.extractLsb' 5 10 = u.t.extractLsb' 5 10 := by
  unfold Ppu.writeScroll
  rw [hw]
  exact ⟨_, rfl, BitVec.extractLsb'_append_eq_right, BitVec.extractLsb'_append_eq_left⟩

/-- The second scroll write: fine Y and coarse Y (50_ppu R325). -/
theorem writeScroll_second (u : Ppu) (v : Byte) (hw : u.w = true) : ∃ t : BitVec 15,
    u.writeScroll v = { u with t := t, w := false } ∧
    t.extractLsb' 12 3 = v.extractLsb' 0 3 ∧ t.extractLsb' 5 5 = v.extractLsb' 3 5 ∧
    t.extractLsb' 0 5 = u.t.extractLsb' 0 5 ∧ t.extractLsb' 10 2 = u.t.extractLsb' 10 2 := by
  unfold Ppu.writeScroll
  rw [hw]
  refine ⟨_, rfl, ?fineY, ?coarseY, BitVec.extractLsb'_append_eq_right, ?nametable⟩
  case coarseY => exact (BitVec.extractLsb'_append_eq_of_le (by decide)).trans BitVec.extractLsb'_append_eq_right
  case nametable =>
    exact (BitVec.extractLsb'_append_eq_of_le (by decide)).trans
      ((BitVec.extractLsb'_append_eq_of_le (by decide)).trans BitVec.extractLsb'_append_eq_right)
  case fineY =>
    exact (BitVec.extractLsb'_append_eq_of_le (by decide)).trans
      ((BitVec.extractLsb'_append_eq_of_le (by decide)).trans BitVec.extractLsb'_append_eq_left)

/-- The first address write: the high six bits, with bit 14 cleared (50_ppu R326). -/
theorem writeAddr_first (u : Ppu) (v : Byte) (hw : u.w = false) : ∃ t : BitVec 15,
    u.writeAddr v = { u with t := t, w := true } ∧
    t.extractLsb' 8 6 = v.extractLsb' 0 6 ∧ t.getLsbD 14 = false ∧ t.extractLsb' 0 8 = u.t.extractLsb' 0 8 := by
  unfold Ppu.writeAddr
  rw [hw]
  refine ⟨_, rfl, ?high, ?bit14, BitVec.extractLsb'_append_eq_right⟩
  case high => exact (BitVec.extractLsb'_append_eq_of_le (by decide)).trans BitVec.extractLsb'_append_eq_right
  case bit14 =>
    simp only [BitVec.getLsbD_append]
    simp

/-- The second address write: the low eight bits, and `v` from `t` (50_ppu R326). -/
theorem writeAddr_second (u : Ppu) (v : Byte) (hw : u.w = true) : ∃ t : BitVec 15,
    u.writeAddr v = { u with t := t, v := t, w := false } ∧
    t.extractLsb' 0 8 = v ∧ t.extractLsb' 8 7 = u.t.extractLsb' 8 7 := by
  unfold Ppu.writeAddr
  rw [hw]
  exact ⟨_, rfl, BitVec.extractLsb'_append_eq_right, BitVec.extractLsb'_append_eq_left⟩

theorem memWrite_scroll (h : isPpuRegister a 5) (v : Byte) (s : State) :
    memWrite a v s = { s with ppu := s.ppu.writeScroll v } := memWrite_ppuReg h v s

theorem memWrite_addr (h : isPpuRegister a 6) (v : Byte) (s : State) :
    memWrite a v s = { s with ppu := s.ppu.writeAddr v } := memWrite_ppuReg h v s

/-- Settles O39: a read is one draw; a write is that of the register under the toggle, first or second. -/
theorem scrollAndAddressWrites : Obligations.ScrollAndAddressWrites := by
  intro a v s
  refine ⟨?read, fun ha hw => ?scroll1, fun ha hw => ?scroll2, fun ha hw => ?addr1, fun ha hw => ?addr2⟩
  case read => rintro (ha | ha) <;> exact memRead_ppuReg ha s
  case scroll1 =>
    obtain ⟨t, h, hbits⟩ := writeScroll_first s.ppu v hw
    exact ⟨t, by rw [memWrite_scroll ha, h], hbits⟩
  case scroll2 =>
    obtain ⟨t, h, hbits⟩ := writeScroll_second s.ppu v hw
    exact ⟨t, by rw [memWrite_scroll ha, h], hbits⟩
  case addr1 =>
    obtain ⟨t, h, hbits⟩ := writeAddr_first s.ppu v hw
    exact ⟨t, by rw [memWrite_addr ha, h], hbits⟩
  case addr2 =>
    obtain ⟨t, h, hbits⟩ := writeAddr_second s.ppu v hw
    exact ⟨t, by rw [memWrite_addr ha, h], hbits⟩

/-! ## The data port -/

/-- The address after an access of the data port, in numbers (50_ppu R327). -/
theorem add_increment_eq (u : Ppu) :
    u.v + u.increment = BitVec.ofNat 15 (u.v.toNat + (if u.ctrl.getLsbD 2 then 32 else 1)) := by
  unfold Ppu.increment
  apply BitVec.eq_of_toNat_eq
  split <;> rw [BitVec.toNat_add, BitVec.toNat_ofNat] <;> rfl

/-- A PPU address counts modulo `$4000` (50_ppu R312). -/
theorem ppuWrite_mod (s : State) (addr : Nat) (v : Byte) : ppuWrite s (addr % 0x4000) v = ppuWrite s addr v := by
  unfold ppuWrite
  rw [Nat.mod_mod]

/-- A write to PPU memory moves neither the address nor the increment. -/
theorem ppuWrite_port (s : State) (addr : Nat) (v : Byte) :
    (ppuWrite s addr v).ppu.v = s.ppu.v ∧ (ppuWrite s addr v).ppu.increment = s.ppu.increment := by
  unfold ppuWrite chrWrite
  dsimp only
  split_ifs <;> exact ⟨rfl, rfl⟩

/-- Settles O40: a read is one of the two kinds by its address, a write one PPU write; each moves the address. -/
theorem dataPort : Obligations.DataPort := by
  intro a val s ha va nv
  have hnv : s.ppu.v + s.ppu.increment = nv := add_increment_eq s.ppu
  have hread : memRead a s = ppuReadData s := memRead_ppuReg ha s
  rw [hread]
  unfold ppuReadData
  rw [hnv]
  refine ⟨fun hlow => if_pos hlow, fun hhigh => ?palette, ?write⟩
  case palette =>
    rw [if_neg (Nat.not_lt.2 hhigh)]
    exact ⟨BitVec.extractLsb'_append_eq_right, BitVec.extractLsb'_append_eq_left, rfl⟩
  case write =>
    obtain ⟨hv, hinc⟩ := ppuWrite_port s s.ppu.v.toNat val
    have hwrite : memWrite a val s = ppuWriteData val s := memWrite_ppuReg ha val s
    rw [hwrite, ppuWrite_mod]
    unfold ppuWriteData
    dsimp only
    rw [hv, hinc, hnv]

/-! ## Sprite DMA -/

/-- A copy out of a page of internal RAM reads without any effect. -/
theorem memRead_ramPage {page : Byte} (hp : page.toNat < 0x20) {i : Nat} (hi : i < 256) (s : State) :
    memRead (joinBytes page (BitVec.ofNat 8 i)) s = (Store.read s.ram ((page.toNat * 256 + i) % 2048), s) := by
  have haddr : (joinBytes page (BitVec.ofNat 8 i)).toNat = page.toNat * 256 + i := by
    rw [joinBytes_toNat, BitVec.toNat_ofNat]
    omega
  rw [memRead_ram (busTarget_ram _ (by omega)), haddr]

/-- OAM after `n` bytes of a page of internal RAM, from byte `i` of the page and cell `oamAddr + i` on (50_ppu R329). -/
def oamAfterCopy (page : Byte) (s : State) : Nat → Nat → Memory → Memory
  | 0, _, oam => oam
  | n + 1, i, oam => oamAfterCopy page s n (i + 1)
      (Store.write oam ((s.ppu.oamAddr.toNat + i) % 256) (Store.read s.ram ((page.toNat * 256 + i) % 2048)))

/-- The copy loop over a page of internal RAM only stores in OAM. -/
theorem dmaCopy_ramPage {page : Byte} (hp : page.toNat < 0x20) (s : State) (n i : Nat) (oam : Memory) (hi : i + n ≤ 256) :
    dmaCopy n i page { s with ppu := { s.ppu with oam := oam } } =
      { s with ppu := { s.ppu with oam := oamAfterCopy page s n i oam } } := by
  induction n generalizing i oam with
  | zero => rfl
  | succ n ih =>
    unfold dmaCopy
    rw [memRead_ramPage hp (by omega)]
    exact ih (i + 1) _ (by omega)

/-- Every byte copied stands in its cell, since no two of 256 go to the same; every other cell is as before. -/
theorem read_oamAfterCopy (page : Byte) (s : State) (n i k : Nat) (oam : Memory) (hi : i + n ≤ 256) (hk : k < 256) :
    Store.read (oamAfterCopy page s n i oam) ((s.ppu.oamAddr.toNat + k) % 256) =
      if i ≤ k ∧ k < i + n then Store.read s.ram ((page.toNat * 256 + k) % 2048)
      else Store.read oam ((s.ppu.oamAddr.toNat + k) % 256) := by
  induction n generalizing i oam with
  | zero => rw [if_neg (by omega)]; rfl
  | succ n ih =>
    rw [oamAfterCopy, ih (i + 1) _ (by omega)]
    by_cases hki : k = i
    · rw [hki, if_neg (by omega), if_pos (by omega), store_read_write_same]
    · rw [store_read_write_other _ _ _ _ (by omega)]
      exact if_congr (by omega) rfl rfl

theorem memWrite_oamDma (page : Byte) (s : State) : memWrite 0x4014#16 page s = oamDma page s := by
  unfold memWrite
  rw [busTarget_eq_oamDma_iff.2 rfl]

/-- The whole DMA from a page of internal RAM: OAM and the stall. -/
theorem oamDma_ramPage {page : Byte} (hp : page.toNat < 0x20) (s : State) : oamDma page s = { s with
    ppu := { s.ppu with oam := oamAfterCopy page s 256 0 s.ppu.oam }
    cyclesToHalt := s.cyclesToHalt + s.cfg.oamDmaStall } := by
  have hcopy := dmaCopy_ramPage hp s 256 0 s.ppu.oam (by decide)
  simp only [oamDma]
  rw [hcopy]

/-- Settles O37: the copy loop reads internal RAM and stores in OAM alone; then the stall is added. -/
theorem spriteDmaCopies : Obligations.SpriteDmaCopies := by
  intro page s hp t
  have hcell : ∀ i, i < 256 → Store.read (oamAfterCopy page s 256 0 s.ppu.oam) ((s.ppu.oamAddr.toNat + i) % 256) =
      Store.read s.ram ((page.toNat * 256 + i) % 2048) := fun i hi => by
    rw [read_oamAfterCopy page s 256 0 i s.ppu.oam (by decide) hi, if_pos (by omega)]
  simp only [t, memWrite_oamDma, oamDma_ramPage hp]
  exact ⟨hcell, trivial⟩

end Sys2Proof.Machine
end

section
/-! SUPPORT. The APU's cycle loop: what one cycle leaves alone, the frame sequencer's steps and the IRQ request (51_apu R385 to
R387, R389), the sample pacer (R409), the sound switch (R410), and the status register (R383). -/

namespace Sys2Proof.Machine

/-! ## One cycle -/

/-- `v` is `u` after one step of a sequence of `m` steps: beside the step number, the length, envelope, linear and sweep units
and the frame interrupt flag may differ (51_apu R386, R387). -/
def SequencerStepped (m : Nat) (u v : Apu) : Prop :=
  v = { u with
    seqStep := (u.seqStep + 1) % m
    frameIrqFlag := v.frameIrqFlag
    pulse1 := v.pulse1
    pulse2 := v.pulse2
    triangle := v.triangle
    noise := v.noise }

theorem fourStep_stepped (u : Apu) : SequencerStepped 4 u u.fourStep := by
  unfold Apu.fourStep
  dsimp only
  split
  case h_4 => split <;> rfl
  all_goals rfl

theorem fiveStep_stepped (u : Apu) : SequencerStepped 5 u u.fiveStep := by
  unfold Apu.fiveStep
  dsimp only
  split <;> rfl

/-- At the end of a period the sequencer starts the next one and steps. -/
theorem clockSequencer_atPeriod {period : Nat} {u : Apu} (h : u.seqCycles + 1 = period) :
    SequencerStepped (if u.seqMode then 5 else 4) { u with seqCycles := 0 } (u.clockSequencer period) := by
  unfold Apu.clockSequencer
  rw [if_pos h]
  dsimp only
  split
  · exact fiveStep_stepped _
  · exact fourStep_stepped _

/-- At any other cycle the sequencer only counts. -/
theorem clockSequencer_inPeriod {period : Nat} {u : Apu} (h : u.seqCycles + 1 ≠ period) :
    u.clockSequencer period = { u with seqCycles := u.seqCycles + 1 } := if_neg h

@[simp] theorem clockSequencer_sampleAcc (period : Nat) (u : Apu) : (u.clockSequencer period).sampleAcc = u.sampleAcc := by
  by_cases h : u.seqCycles + 1 = period
  · rw [clockSequencer_atPeriod h]
  · rw [clockSequencer_inPeriod h]

/-- The DMC memory reader changes the DMC and what a read may change. -/
theorem dmcReaderCycle_eq (s : State) : dmcReaderCycle s = { s with
    draws := (dmcReaderCycle s).draws
    ppu := (dmcReaderCycle s).ppu
    apu := { s.apu with frameIrqFlag := (dmcReaderCycle s).apu.frameIrqFlag, dmc := (dmcReaderCycle s).apu.dmc }
    ctrlShift0 := (dmcReaderCycle s).ctrlShift0
    ctrlShift1 := (dmcReaderCycle s).ctrlShift1 } := by
  unfold dmcReaderCycle
  split
  · dsimp only
    rw [memRead_effects s.apu.dmc.curAddr s]
  · rfl

/-- The parts of a cycle before the sample pacer (51_apu R385). -/
def unitsCycle (s : State) : State := timersCycle (dmcReaderCycle (sequencerCycle s))

theorem apuCycle_pacer (s : State) : apuCycle s = pacerCycle (unitsCycle s) := rfl

/-- Before the pacer a cycle leaves the accumulator, the samples and the IRQ latch, and the sequencer alone moves its counters. -/
theorem unitsCycle_eq (s : State) : unitsCycle s = { s with
    draws := (unitsCycle s).draws
    ppu := (unitsCycle s).ppu
    apu := { s.apu.clockSequencer s.cfg.frameSeqPeriod with
      frameIrqFlag := (unitsCycle s).apu.frameIrqFlag
      pulse1 := (unitsCycle s).apu.pulse1
      pulse2 := (unitsCycle s).apu.pulse2
      triangle := (unitsCycle s).apu.triangle
      noise := (unitsCycle s).apu.noise
      dmc := (unitsCycle s).apu.dmc }
    ctrlShift0 := (unitsCycle s).ctrlShift0
    ctrlShift1 := (unitsCycle s).ctrlShift1 } := by
  unfold unitsCycle
  rw [dmcReaderCycle_eq]
  rfl

/-- The pacer changes its accumulator and the samples. -/
theorem pacerCycle_eq (s : State) : pacerCycle s = { s with
    apu := { s.apu with sampleAcc := (pacerCycle s).apu.sampleAcc }
    samples := (pacerCycle s).samples } := by
  unfold pacerCycle emitSample
  dsimp only
  split_ifs <;> rfl

section OneCycle

variable (s : State)

@[simp] theorem unitsCycle_sampleAcc : (unitsCycle s).apu.sampleAcc = s.apu.sampleAcc := by
  rw [unitsCycle_eq]
  exact clockSequencer_sampleAcc _ _

@[simp] theorem unitsCycle_samples : (unitsCycle s).samples = s.samples := by rw [unitsCycle_eq]
@[simp] theorem unitsCycle_cfg : (unitsCycle s).cfg = s.cfg := by rw [unitsCycle_eq]
@[simp] theorem unitsCycle_inputs : (unitsCycle s).inputs = s.inputs := by rw [unitsCycle_eq]

@[simp] theorem apuCycle_cfg : (apuCycle s).cfg = s.cfg := by rw [apuCycle_effects s]
@[simp] theorem apuCycle_inputs : (apuCycle s).inputs = s.inputs := by rw [apuCycle_effects s]

@[simp] theorem apuCycle_irqPending : (apuCycle s).irqPending = s.irqPending := by
  rw [apuCycle_pacer, pacerCycle_eq, unitsCycle_eq]

theorem apuCycle_seqMode :
    (apuCycle s).apu.seqMode = (s.apu.clockSequencer s.cfg.frameSeqPeriod).seqMode := by
  rw [apuCycle_pacer, pacerCycle_eq, unitsCycle_eq]

theorem apuCycle_seqStep :
    (apuCycle s).apu.seqStep = (s.apu.clockSequencer s.cfg.frameSeqPeriod).seqStep := by
  rw [apuCycle_pacer, pacerCycle_eq, unitsCycle_eq]

theorem apuCycle_seqCycles :
    (apuCycle s).apu.seqCycles = (s.apu.clockSequencer s.cfg.frameSeqPeriod).seqCycles := by
  rw [apuCycle_pacer, pacerCycle_eq, unitsCycle_eq]

end OneCycle

/-- The last of `n + 1` cycles taken apart from the first `n`. -/
theorem apuCycles_succ (n : Nat) (s : State) : apuCycles (n + 1) s = apuCycle (apuCycles n s) := by
  induction n generalizing s with
  | zero => rfl
  | succ n ih => exact ih (apuCycle s)

/-! ## The IRQ request -/

theorem apuCycles_irqPending (n : Nat) (s : State) : (apuCycles n s).irqPending = s.irqPending := by
  induction n with
  | zero => rfl
  | succ n ih => rw [apuCycles_succ, apuCycle_irqPending, ih]

theorem clockFrameCounter_apu (n : Nat) (s : State) : (clockFrameCounter n s).apu = (apuCycles n s).apu := by
  unfold clockFrameCounter
  dsimp only
  split <;> rfl

/-- The request: the latch is set when a flag is, and kept otherwise. -/
theorem clockFrameCounter_irqPending (n : Nat) (s : State) :
    (clockFrameCounter n s).irqPending = (s.irqPending || (apuCycles n s).apu.irqLine) := by
  unfold clockFrameCounter
  dsimp only
  split
  · next hline => rw [hline, Bool.or_true]; rfl
  · next hline => rw [Bool.eq_false_iff.2 hline, Bool.or_false, apuCycles_irqPending]

/-- Settles O44: the cycles themselves leave the latch, and the request at their end looks at the two flags. -/
theorem apuRequestsIrq : Obligations.ApuRequestsIrq := by
  intro n s
  rw [clockFrameCounter_irqPending, clockFrameCounter_apu, Bool.or_assoc]
  rfl

/-! ## The frame sequencer -/

/-- The first cycles of a period only count. -/
theorem apuCycles_inPeriod {k : Nat} {s : State} (hperiod : s.cfg.frameSeqPeriod = k + 1) (hstart : s.apu.seqCycles = 0)
    (j : Nat) (hj : j ≤ k) :
    (apuCycles j s).cfg = s.cfg ∧ (apuCycles j s).apu.seqMode = s.apu.seqMode ∧
    (apuCycles j s).apu.seqStep = s.apu.seqStep ∧ (apuCycles j s).apu.seqCycles = j := by
  induction j with
  | zero => exact ⟨rfl, rfl, rfl, hstart⟩
  | succ j ih =>
    obtain ⟨hcfg, hmode, hstep, hcycles⟩ := ih (by omega)
    have hcount := clockSequencer_inPeriod (u := (apuCycles j s).apu) (period := (apuCycles j s).cfg.frameSeqPeriod)
      (by rw [hcfg, hperiod, hcycles]; omega)
    rw [apuCycles_succ, apuCycle_cfg, apuCycle_seqMode, apuCycle_seqStep, apuCycle_seqCycles, hcount]
    exact ⟨hcfg, hmode, hstep, congrArg (· + 1) hcycles⟩

/-- Settles O45: the first `k` cycles of the period only count, and the next one ends it. -/
theorem sequencerPeriod : Obligations.SequencerPeriod := by
  intro k s hperiod hstart
  obtain ⟨hcfg, hmode, hstep, hcycles⟩ := apuCycles_inPeriod hperiod hstart k le_rfl
  have hstepped := clockSequencer_atPeriod (u := (apuCycles k s).apu) (period := (apuCycles k s).cfg.frameSeqPeriod)
    (by rw [hcfg, hperiod, hcycles])
  refine ⟨fun j hj => ?_, ?_, ?_⟩
  · obtain ⟨-, -, hkept, -⟩ := apuCycles_inPeriod hperiod hstart j hj
    exact hkept
  · rw [apuCycles_succ, apuCycle_seqStep, hstepped, hmode, ← hstep]
  · rw [apuCycles_succ, apuCycle_seqCycles, hstepped]

/-! ## The sample pacer -/

/-- One cycle of the pacer: the samples handed out, each `CPU_HZ` worth, and the accumulator hold what was added. -/
theorem pacerCycle_accumulates {s : State} (hon : s.inputs.soundEnabled = true) (hrate : s.cfg.sampleRate ≤ s.cfg.cpuHz)
    (hacc : s.apu.sampleAcc < s.cfg.cpuHz) : ∃ e,
    (pacerCycle s).samples.length = s.samples.length + e ∧ (pacerCycle s).apu.sampleAcc < s.cfg.cpuHz ∧
    (pacerCycle s).apu.sampleAcc + s.cfg.cpuHz * e = s.apu.sampleAcc + s.cfg.sampleRate := by
  unfold pacerCycle emitSample
  dsimp only
  split_ifs with hpass
  · exact ⟨1, List.length_append, by dsimp only; omega, by dsimp only; omega⟩
  · exact ⟨0, rfl, Nat.lt_of_not_le hpass, rfl⟩

/-- Over any number of cycles likewise. -/
theorem apuCycles_accumulates (n : Nat) {s : State} (hon : s.inputs.soundEnabled = true)
    (hrate : s.cfg.sampleRate ≤ s.cfg.cpuHz) (hacc : s.apu.sampleAcc < s.cfg.cpuHz) : ∃ e,
    (apuCycles n s).samples.length = s.samples.length + e ∧ (apuCycles n s).apu.sampleAcc < s.cfg.cpuHz ∧
    (apuCycles n s).apu.sampleAcc + s.cfg.cpuHz * e = s.apu.sampleAcc + n * s.cfg.sampleRate := by
  induction n generalizing s with
  | zero => exact ⟨0, rfl, hacc, by simp [apuCycles]⟩
  | succ n ih =>
    obtain ⟨e, hlen, hlt, hsum⟩ := pacerCycle_accumulates (s := unitsCycle s) (by simpa) (by simpa) (by simpa)
    simp only [← apuCycle_pacer, unitsCycle_samples, unitsCycle_cfg, unitsCycle_sampleAcc] at hlen hlt hsum
    obtain ⟨e', hlen', hlt', hsum'⟩ := ih (s := apuCycle s) (by simpa) (by simpa) (by simpa)
    rw [apuCycle_cfg] at hlt' hsum'
    refine ⟨e + e', ?_, hlt', ?_⟩
    · rw [apuCycles, hlen', hlen, Nat.add_assoc]
    · rw [apuCycles, Nat.mul_add, Nat.succ_mul]
      omega

/-- Settles O47: the samples handed out and the accumulator are the quotient and the rest of what was added up. -/
theorem sampleCount : Obligations.SampleCount := by
  intro n s hon hrate hacc
  obtain ⟨e, hlen, hlt, hsum⟩ := apuCycles_accumulates n hon hrate hacc
  obtain ⟨hdiv, hmod⟩ := (Nat.div_mod_unique (Nat.zero_lt_of_lt hacc)).2 ⟨hsum, hlt⟩
  rw [hdiv, hmod]
  exact ⟨hlen, rfl⟩

/-! ## The sound switch -/

/-- The same machine with the sound switch at `b` and the samples `xs` handed out. -/
def State.withSound (s : State) (b : Bool) (xs : List Sample) : State :=
  { s with inputs := { s.inputs with soundEnabled := b }, samples := xs }

section SoundSwitch

variable (b : Bool) (xs : List Sample)

@[simp] theorem withSound_ppu (s : State) : (s.withSound b xs).ppu = s.ppu := rfl
@[simp] theorem withSound_apu (s : State) : (s.withSound b xs).apu = s.apu := rfl
@[simp] theorem withSound_mapper (s : State) : (s.withSound b xs).mapper = s.mapper := rfl
@[simp] theorem withSound_cfg (s : State) : (s.withSound b xs).cfg = s.cfg := rfl

theorem ppuRegRead_withSound (r : Nat) (s : State) :
    ppuRegRead r (s.withSound b xs) = ((ppuRegRead r s).1, (ppuRegRead r s).2.withSound b xs) := by
  unfold ppuRegRead
  split
  case h_3 =>
    unfold ppuReadData
    rw [withSound_ppu]
    dsimp only
    split <;> rfl
  all_goals rfl

/-- A read sees neither the switch nor the samples. -/
theorem memRead_withSound (a : Word) (s : State) :
    memRead a (s.withSound b xs) = ((memRead a s).1, (memRead a s).2.withSound b xs) := by
  unfold memRead
  cases busTarget a with
  | ppuReg r => exact ppuRegRead_withSound b xs r s
  | cartRam i =>
    dsimp only
    rw [withSound_mapper]
    split <;> rfl
  | ram _ | apuChannel _ | oamDma | apuStatus | port1 | port2 | nothing | expansion | prg => rfl

theorem dmcReaderCycle_withSound (s : State) : dmcReaderCycle (s.withSound b xs) = (dmcReaderCycle s).withSound b xs := by
  unfold dmcReaderCycle
  rw [withSound_apu, memRead_withSound]
  split <;> rfl

theorem unitsCycle_withSound (s : State) : unitsCycle (s.withSound b xs) = (unitsCycle s).withSound b xs := by
  have hreader := dmcReaderCycle_withSound b xs (sequencerCycle s)
  exact congrArg timersCycle hreader

/-- A sample is all that an emission changes. -/
theorem emitSample_withSound (s : State) : ∃ ys, emitSample (s.withSound b xs) = (emitSample s).withSound b ys := by
  refine ⟨(emitSample (s.withSound b xs)).samples, ?_⟩
  unfold emitSample
  split_ifs <;> rfl

/-- The pacer looks at the switch only to hand out its sample. -/
theorem pacerCycle_withSound (s : State) : ∃ ys, pacerCycle (s.withSound b xs) = (pacerCycle s).withSound b ys := by
  unfold pacerCycle
  rw [withSound_apu, withSound_cfg]
  dsimp only
  split
  · exact emitSample_withSound b xs
      { s with apu := { s.apu with sampleAcc := s.apu.sampleAcc + s.cfg.sampleRate - s.cfg.cpuHz } }
  · exact ⟨xs, rfl⟩

theorem apuCycles_withSound (n : Nat) (s : State) : ∃ ys, apuCycles n (s.withSound b xs) = (apuCycles n s).withSound b ys := by
  induction n generalizing s xs with
  | zero => exact ⟨xs, rfl⟩
  | succ n ih =>
    obtain ⟨ys, hpacer⟩ := pacerCycle_withSound b xs (unitsCycle s)
    rw [← unitsCycle_withSound, ← apuCycle_pacer, ← apuCycle_pacer] at hpacer
    rw [apuCycles, hpacer]
    exact ih ys (apuCycle s)

theorem clockFrameCounter_withSound (n : Nat) (s : State) :
    ∃ ys, clockFrameCounter n (s.withSound b xs) = (clockFrameCounter n s).withSound b ys := by
  obtain ⟨ys, hcycles⟩ := apuCycles_withSound b xs n s
  refine ⟨ys, ?_⟩
  unfold clockFrameCounter
  rw [hcycles]
  dsimp only
  rw [withSound_apu]
  split <;> rfl

end SoundSwitch

/-- Settles O46: every part of a cycle evolves alike whatever the switch and the samples are, and the request too. -/
theorem soundChangesOnlySamples : Obligations.SoundChangesOnlySamples := by
  intro n b s mute
  obtain ⟨ys, halike⟩ := clockFrameCounter_withSound b s.samples n s
  change clockFrameCounter n (mute s) = _ at halike
  rw [halike]
  rfl

/-! ## The status register -/

theorem memRead_apuStatus (s : State) : memRead 0x4015#16 s = readApuStatus s := by
  unfold memRead
  rw [busTarget_eq_apuStatus_iff.2 rfl]

theorem memWrite_apuStatus (v : Byte) (s : State) : memWrite 0x4015#16 v s = { s with apu := s.apu.writeEnable v } := by
  unfold memWrite
  rw [busTarget_eq_apuStatus_iff.2 rfl]

/-- The bits of a status byte but the drawn bit 5. -/
theorem statusByte_bits (u : Apu) (d : Byte) :
    (u.statusByte d).getLsbD 7 = u.dmc.dmcIrqFlag ∧ (u.statusByte d).getLsbD 6 = u.frameIrqFlag ∧
    (u.statusByte d).getLsbD 4 = decide (0 < u.dmc.bytesRemaining) ∧
    (u.statusByte d).getLsbD 3 = decide (0 < u.noise.length) ∧
    (u.statusByte d).getLsbD 2 = decide (0 < u.triangle.length) ∧
    (u.statusByte d).getLsbD 1 = decide (0 < u.pulse2.length) ∧
    (u.statusByte d).getLsbD 0 = decide (0 < u.pulse1.length) := by
  simp only [Apu.statusByte, BitVec.getLsbD_append]
  simp

/-- A write of 0: every channel is disabled and its counter cleared, and the DMC stops and drops its flag. -/
theorem writeEnable_zero (u : Apu) : u.writeEnable 0x00#8 = { u with
    pulse1 := { u.pulse1 with enabled := false, length := 0 }
    pulse2 := { u.pulse2 with enabled := false, length := 0 }
    triangle := { u.triangle with enabled := false, length := 0 }
    noise := { u.noise with enabled := false, length := 0 }
    dmc := { u.dmc with bytesRemaining := 0, dmcIrqFlag := false } } := rfl

/-- Settles O48: a read is the status byte over one draw and clears the frame flag; a write of 0 disables every channel. -/
theorem apuStatusRegister : Obligations.ApuStatusRegister := by
  intro s
  obtain ⟨hdmcIrq, hframeIrq, hdmc, hnoise, htriangle, hpulse2, hpulse1⟩ := statusByte_bits s.apu (Config.openBus s.draws)
  rw [memRead_apuStatus, memWrite_apuStatus, writeEnable_zero]
  exact ⟨⟨hdmcIrq, hframeIrq, hdmc, hnoise, htriangle, hpulse2, hpulse1, rfl⟩,
    rfl, rfl, rfl, rfl, rfl, rfl, rfl, rfl, rfl, rfl, rfl⟩

end Sys2Proof.Machine
end

section
/-! SUPPORT. The bank windows over a bus write, a dot and a reset, so over every step (52_mappers R420 to R423, R441, R460,
R461); and the reset state against the three invariants (70_reset_and_hazards R520). -/

namespace Sys2Proof.Machine

/-- The windows lie inside an image of legal lengths (52_mappers R420). -/
def WindowsOk (s : State) : Prop := Inside s.mapper s.rom ∧ s.rom.wellFormed = true

/-- The windows stay inside where they and the image stay. -/
theorem WindowsOk.congr {s t : State} (h : WindowsOk s) (hprg : t.mapper.prgWin = s.mapper.prgWin)
    (hchr : t.mapper.chrWin = s.mapper.chrWin) (hrom : t.rom = s.rom) : WindowsOk t := by
  unfold WindowsOk Inside
  rw [hprg, hchr, hrom]
  exact h

/-- A CPU-bus write keeps the windows inside: only one to program memory may set them, from banks of the image. -/
theorem memWrite_windowsOk (a : Word) (v : Byte) (s : State) (h : WindowsOk s) : WindowsOk (memWrite a v s) := by
  have k := memWrite_frame a v s
  by_cases hb : busTarget a = .prg
  · obtain ⟨hin, hrom⟩ := h
    unfold WindowsOk
    rw [k.rom, memWrite_prg hb]
    exact ⟨mapperWrite8_inside a v s hrom hin, hrom⟩
  · exact h.congr (k.prgWin hb) (k.chrWin hb) k.rom

/-- Every part of a step keeps the windows inside. -/
theorem keeps_windowsOk : Keeps WindowsOk where
  own e h   := h.congr (by rw [e]) (by rw [e]) (by rw [e])
  write     := memWrite_windowsOk
  dot s h   := h.congr (by rw [ppuDot_effects s]) (by rw [ppuDot_effects s]) (by rw [ppuDot_effects s])
  start _ h := h
  reset s h := by
    unfold performReset
    rw [resetWith_eq]
    exact ⟨powerOn_inside h.2 _, h.2⟩

/-- Settles O55: each part of a step keeps the windows inside the image, so every step does. -/
theorem windowsStayInImage : Obligations.WindowsStayInImage := by
  intro s t hs h
  exact (windowsOk_iff t).2 (keeps_step keeps_windowsOk s t h ((windowsOk_iff s).1 hs))

/-- Settles O56: the reset state is closed data, on which each invariant is evaluated. -/
theorem resetMeetsInvariants : Obligations.ResetMeetsInvariants := by
  unfold Obligations.ResetMeetsInvariants
  decide

end Sys2Proof.Machine
end

section
/-! SUPPORT. The registers of MMC1 and MMC3 over writes to program memory, and the MMC3 counter over scanline clocks
(52_mappers R432, R435, R436, R450 to R452, R456, R458, R462). -/

namespace Sys2Proof.Machine

variable {a : Word} {s : State}

/-! ## MMC1 -/

@[simp] theorem mmc1Update_regs (r : Mmc1) (s : State) : (mmc1Update r s).mapper.regs = .mmc1 r := by
  unfold mmc1Update
  dsimp only
  split
  · rw [mapperSetMirroring_mapper]
  · rfl

theorem memWrite_mmc1 {r : Mmc1} (ha : 0x8000 ≤ a.toNat) (hr : s.mapper.regs = .mmc1 r) (v : Byte) :
    memWrite a v s = mmc1Write r a v s := by
  rw [memWrite_prg (busTarget_prg a ha)]
  unfold mapperWrite8
  rw [hr]

/-- The serial port with one more bit in it, at the place the count gives (52_mappers R435). -/
def shiftedIn (r : Mmc1) (v : Byte) : BitVec 5 :=
  r.shiftReg ||| ((v.extractLsb' 0 1).zeroExtend 5 <<< r.shiftCount)

/-- A serial write before the fifth only shifts its bit in. -/
theorem memWrite_mmc1_shift {r : Mmc1} (ha : 0x8000 ≤ a.toNat) {v : Byte} (hv : v.getLsbD 7 = false)
    (hr : s.mapper.regs = .mmc1 r) (hn : r.shiftCount < 4) :
    (memWrite a v s).mapper.regs = .mmc1 { r with shiftReg := shiftedIn r v, shiftCount := r.shiftCount + 1 } := by
  rw [memWrite_mmc1 ha hr]
  unfold mmc1Write
  dsimp only
  rw [hv, if_neg Bool.false_ne_true, if_neg (by omega)]
  rfl

/-- The fifth serial write loads the register its address selects and empties the port. -/
theorem memWrite_mmc1_load {r : Mmc1} (ha : 0x8000 ≤ a.toNat) {v : Byte} (hv : v.getLsbD 7 = false)
    (hr : s.mapper.regs = .mmc1 r) (hn : r.shiftCount = 4) :
    (memWrite a v s).mapper.regs = .mmc1 { mmc1Load r a (shiftedIn r v) with shiftReg := 0#5, shiftCount := 0 } := by
  rw [memWrite_mmc1 ha hr]
  unfold mmc1Write
  dsimp only
  rw [hv, if_neg Bool.false_ne_true, if_pos (by omega), mmc1Update_regs]
  rfl

/-- The register selected, by ranges of the address (52_mappers R432). -/
theorem mmc1Load_eq (r : Mmc1) (ha : 0x8000 ≤ a.toNat) (v : BitVec 5) :
    mmc1Load r a v =
      if a.toNat < 0xA000 then { r with control := v, controlLoaded := true }
      else if a.toNat < 0xC000 then { r with chrBank0 := v }
      else if a.toNat < 0xE000 then { r with chrBank1 := v }
      else { r with prgBank := v } := by
  have hsel : (a.extractLsb' 13 2).toNat = a.toNat / 8192 - 4 := by
    have := a.isLt
    rw [BitVec.extractLsb'_toNat, Nat.shiftRight_eq_div_pow]
    omega
  unfold mmc1Load
  rw [hsel]
  split_ifs with h1 h2 h3
  · rw [show a.toNat / 8192 - 4 = 0 by omega]
    rfl
  · rw [show a.toNat / 8192 - 4 = 1 by omega]
    rfl
  · rw [show a.toNat / 8192 - 4 = 2 by omega]
    rfl
  · rw [show a.toNat / 8192 - 4 = 3 by have := a.isLt; omega]
    rfl

/-- Five bits shifted in one after the other are the five bits side by side, the first lowest. -/
theorem fiveShifts_eq_append : ∀ b1 b2 b3 b4 b5 : BitVec 1,
    0#5 ||| (b1.zeroExtend 5 <<< 0) ||| (b2.zeroExtend 5 <<< 1) ||| (b3.zeroExtend 5 <<< 2) ||| (b4.zeroExtend 5 <<< 3) |||
      (b5.zeroExtend 5 <<< 4) = (b5 ++ b4 ++ b3 ++ b2 ++ b1 : BitVec 5) := by
  decide

/-- Settles O49: the first four writes fill the port, the fifth loads what it then holds. -/
theorem mmc1SerialLoad : Obligations.Mmc1SerialLoad := by
  intro a1 a2 a3 a4 a5 v1 v2 v3 v4 v5 r s hr hreg hcount h1 h2 h3 h4 h5 hv1 hv2 hv3 hv4 hv5 v
  have k1 := memWrite_mmc1_shift h1 hv1 hr (by omega)
  have k2 := memWrite_mmc1_shift h2 hv2 k1 (by dsimp only; omega)
  have k3 := memWrite_mmc1_shift h3 hv3 k2 (by dsimp only; omega)
  have k4 := memWrite_mmc1_shift h4 hv4 k3 (by dsimp only; omega)
  have k5 := memWrite_mmc1_load h5 hv5 k4 (by dsimp only; omega)
  have hfive := fiveShifts_eq_append (v1.extractLsb' 0 1) (v2.extractLsb' 0 1) (v3.extractLsb' 0 1) (v4.extractLsb' 0 1)
    (v5.extractLsb' 0 1)
  refine k5.trans (congrArg _ ?_)
  obtain ⟨shiftReg, shiftCount, control, chrBank0, chrBank1, prgBank, controlLoaded⟩ := r
  dsimp only at hreg hcount
  subst hreg hcount
  simp only [shiftedIn, Nat.zero_add, Nat.reduceAdd]
  rw [hfive, mmc1Load_eq _ h5]
  split_ifs <;> rfl

/-- Settles O50: the write empties the port and sets the two mode bits of control; the other bits of it stay. -/
theorem mmc1ResetWrite : Obligations.Mmc1ResetWrite := by
  intro a val r s hr ha hv
  have hbits : ∀ c : BitVec 5, (c ||| 0x0C#5).extractLsb' 2 2 = 3#2 ∧
      (c ||| 0x0C#5).extractLsb' 0 2 = c.extractLsb' 0 2 ∧ (c ||| 0x0C#5).getLsbD 4 = c.getLsbD 4 := by decide
  refine ⟨r.control ||| 0x0C#5, ?_, hbits r.control⟩
  rw [memWrite_mmc1 ha hr]
  unfold mmc1Write
  rw [if_pos hv, mmc1Update_regs]

/-! ## MMC3 -/

theorem memWrite_mmc3 {r : Mmc3} (ha : 0x8000 ≤ a.toNat) (hr : s.mapper.regs = .mmc3 r) (v : Byte) :
    memWrite a v s = mmc3Write r a v s := by
  rw [memWrite_prg (busTarget_prg a ha)]
  unfold mapperWrite8
  rw [hr]

/-- In `$8000-$9FFF` an even address is the bank-select register, an odd one the bank-data register (52_mappers R450). -/
theorem mmc3Register_low (ha : 0x8000 ≤ a.toNat) (ha' : a.toNat < 0xA000) : mmc3Register a = a.toNat % 2 := by
  have hhigh : (a >>> 12) &&& 6#16 = 0#16 := by
    have h : a >>> 12 = 8#16 ∨ a >>> 12 = 9#16 := by
      simp only [← BitVec.toNat_inj, BitVec.toNat_ushiftRight, Nat.shiftRight_eq_div_pow, BitVec.toNat_ofNat]
      omega
    obtain h | h := h <;> rw [h] <;> rfl
  unfold mmc3Register
  rw [hhigh, BitVec.zero_or, BitVec.toNat_and]
  exact Nat.and_one_is_mod a.toNat

/-- A write of the bank-select register (52_mappers R451). -/
theorem memWrite_bankSelect {r : Mmc3} (ha : 0x8000 ≤ a.toNat) (ha' : a.toNat < 0xA000) (h2 : a.toNat % 2 = 0)
    (hr : s.mapper.regs = .mmc3 r) (v : Byte) :
    (memWrite a v s).mapper.regs = .mmc3 { r with bankSelect := v } := by
  rw [memWrite_mmc3 ha hr]
  unfold mmc3Write
  rw [mmc3Register_low ha ha', h2]
  rfl

/-- A write of the bank-data register (52_mappers R452). -/
theorem memWrite_bankData {r : Mmc3} (ha : 0x8000 ≤ a.toNat) (ha' : a.toNat < 0xA000) (h2 : a.toNat % 2 = 1)
    (hr : s.mapper.regs = .mmc3 r) (v : Byte) :
    (memWrite a v s).mapper.regs =
      .mmc3 { r with banks := r.banks.set (win8 (r.bankSelect.toNat % 8)) v } := by
  rw [memWrite_mmc3 ha hr]
  unfold mmc3Write
  rw [mmc3Register_low ha ha', h2]
  rfl

/-- Settles O51: the second write sets one slot, the one the first write named. -/
theorem mmc3BankData : Obligations.Mmc3BankData := by
  intro a1 a2 b d r s hr h1 h1' heven h2 h2' hodd
  refine ⟨_, memWrite_bankData h2 h2' hodd (memWrite_bankSelect h1 h1' heven hr b) d, rfl, fun k => ?_,
    rfl, rfl, rfl, rfl, rfl⟩
  change (r.banks.set (b.toNat % 8 % 8) d (by omega))[k.val] = _
  rw [Vector.getElem_set]
  exact if_congr (by omega) rfl rfl

/-- A scanline clock of MMC3: the counter, and a request when it is then 0 and enabled (52_mappers R458). -/
theorem clockIrqCounter_mmc3 {r : Mmc3} (hr : s.mapper.regs = .mmc3 r) :
    (clockIrqCounter s).mapper.regs = .mmc3 (mmc3Clocked r) ∧ (clockIrqCounter s).irqPending =
      (s.irqPending || decide ((mmc3Clocked r).irqCounter = 0#8 ∧ (mmc3Clocked r).irqEnable = true)) := by
  unfold clockIrqCounter
  rw [hr]
  dsimp only
  split
  · next h => exact ⟨rfl, by rw [decide_eq_true h, Bool.or_true]⟩
  · next h => exact ⟨rfl, by rw [decide_eq_false h, Bool.or_false]; rfl⟩

theorem clocksAfter_succ (n : Nat) (s : State) : clocksAfter (n + 1) s = clockIrqCounter (clocksAfter n s) := by
  induction n generalizing s with
  | zero => rfl
  | succ n ih => exact ih _

/-- After a reload write the first clock gives the counter the latch's value and each next one counts down; the clock that
reaches 0 requests. -/
theorem clocksAfter_mmc3 {k : Nat} {r : Mmc3} (hr : s.mapper.regs = .mmc3 r) (hreload : r.irqReload = true)
    (henable : r.irqEnable = true) (hk : k ≤ r.irqLatchValue.toNat) :
    (∃ c : Byte, c.toNat = r.irqLatchValue.toNat - k ∧
      (clocksAfter (k + 1) s).mapper.regs = .mmc3 { r with irqCounter := c, irqReload := false }) ∧
    (clocksAfter (k + 1) s).irqPending = (s.irqPending || decide (k = r.irqLatchValue.toNat)) := by
  have request : ∀ (c : Byte) (j : Nat), j ≤ r.irqLatchValue.toNat → c.toNat = r.irqLatchValue.toNat - j →
      decide (c = 0#8 ∧ r.irqEnable = true) = decide (j = r.irqLatchValue.toNat) := fun c j hj hc =>
    decide_eq_decide.2 (by rw [← BitVec.toNat_inj, hc, BitVec.toNat_ofNat]; simp only [henable, and_true]; omega)
  induction k with
  | zero =>
    obtain ⟨hregs, hirq⟩ := clockIrqCounter_mmc3 hr
    have hclocked : mmc3Clocked r = { r with irqCounter := r.irqLatchValue, irqReload := false } := if_pos (.inl hreload)
    rw [hclocked] at hregs hirq
    exact ⟨⟨_, rfl, hregs⟩, hirq.trans (by rw [request _ 0 hk rfl])⟩
  | succ k ih =>
    obtain ⟨⟨c, hc, hregs⟩, hirq⟩ := ih (by omega)
    obtain ⟨hregs', hirq'⟩ := clockIrqCounter_mmc3 hregs
    have hne : c ≠ 0#8 := fun h => by rw [h, BitVec.toNat_ofNat] at hc; omega
    have hclocked : mmc3Clocked { r with irqCounter := c, irqReload := false } =
        { r with irqCounter := c - 1, irqReload := false } := if_neg (by simp [hne])
    have hc' : (c - 1).toNat = r.irqLatchValue.toNat - (k + 1) := by
      rw [BitVec.toNat_sub_of_le (BitVec.le_def.2 (by simp; omega))]
      simp
      omega
    rw [hclocked] at hregs' hirq'
    rw [clocksAfter_succ]
    refine ⟨⟨_, hc', hregs'⟩, hirq'.trans ?_⟩
    rw [hirq, decide_eq_false (by omega), Bool.or_false, request _ _ hk hc']

/-- Settles O52: the counter and the request after each clock, by induction over the clocks. -/
theorem mmc3CounterRequestsOnce : Obligations.Mmc3CounterRequestsOnce := by
  intro k r s hr hreload henable hk
  obtain ⟨⟨c, hc, hregs⟩, hirq⟩ := clocksAfter_mmc3 hr hreload henable hk
  exact ⟨⟨_, hregs, hc⟩, hirq⟩

end Sys2Proof.Machine
end

section
/-! SUPPORT. The step boundary: the stall (53_orchestrator R479), what the sampling takes (60_exceptions R254 to R256), the
return from an entry (R257, R259), and that every step goes on (R250). -/

namespace Sys2Proof.Machine

variable {s : State}

/-! ## The stall -/

theorem emulate_stall (h : 0 < s.cyclesToHalt) : emulate s = .next (stallStep s) := if_pos h

theorem stallsAfter_succ (n : Nat) (s : State) : stallsAfter (n + 1) s = stallStep (stallsAfter n s) := by
  induction n generalizing s with
  | zero => rfl
  | succ n ih => exact ih _

/-- A stall step takes a whole chunk where at least one is left. -/
theorem stallStep_chunk (h : s.cfg.stallChunk ≤ s.cyclesToHalt) : stallStep s =
    { s with cyclesToHalt := s.cyclesToHalt - s.cfg.stallChunk, stepCycles := s.cfg.stallChunk } := by
  unfold stallStep
  rw [Nat.min_eq_right h]

/-- A stall step takes the rest where no more than a chunk is left. -/
theorem stallStep_rest (h : s.cyclesToHalt ≤ s.cfg.stallChunk) : stallStep s =
    { s with cyclesToHalt := 0, stepCycles := s.cyclesToHalt } := by
  unfold stallStep
  dsimp only
  rw [Nat.min_eq_left h, Nat.sub_self]

/-- Of `k` chunks and a rest, stall step number `j` takes one chunk and leaves those after it. -/
theorem stallStep_stallsAfter {k rest j : Nat} (h : s.cyclesToHalt = k * s.cfg.stallChunk + rest) (hj : j < k) :
    stallStep (stallsAfter j s) =
      { s with cyclesToHalt := (k - 1 - j) * s.cfg.stallChunk + rest, stepCycles := s.cfg.stallChunk } := by
  have taken : ∀ n, (n + 1) * s.cfg.stallChunk + rest - s.cfg.stallChunk = n * s.cfg.stallChunk + rest := fun n => by
    rw [Nat.succ_mul]
    omega
  have whole : ∀ n, s.cfg.stallChunk ≤ (n + 1) * s.cfg.stallChunk + rest := fun n => by
    rw [Nat.succ_mul]
    omega
  induction j with
  | zero =>
    obtain ⟨n, rfl⟩ : ∃ n, k = n + 1 := ⟨k - 1, by omega⟩
    rw [stallsAfter, stallStep_chunk (h ▸ whole n), h, taken]
    rfl
  | succ j ih =>
    obtain ⟨n, hn⟩ : ∃ n, k - 1 - j = n + 1 := ⟨k - 1 - (j + 1), by omega⟩
    rw [stallsAfter_succ, ih (by omega), hn, stallStep_chunk (whole n)]
    dsimp only
    rw [taken, show k - 1 - (j + 1) = n by omega]

/-- Settles O8: each of the `k` chunks is one stall step, and so is the rest after them. -/
theorem stallConsumedInChunks : Obligations.StallConsumedInChunks := by
  intro s k rest hpos hrest h
  refine ⟨fun u => emulate_stall, fun j => stallStep_stallsAfter h, ?_⟩
  rw [stallsAfter_succ]
  cases k with
  | zero =>
    have hs : s.cyclesToHalt = rest := by omega
    rw [stallsAfter, stallStep_rest (hs ▸ hrest), hs]
  | succ k =>
    have hleft : stallsAfter (k + 1) s = { s with cyclesToHalt := rest, stepCycles := s.cfg.stallChunk } := by
      rw [stallsAfter_succ, stallStep_stallsAfter h (Nat.lt_succ_self k), Nat.add_sub_cancel, Nat.sub_self, Nat.zero_mul,
        Nat.zero_add]
    rw [hleft, stallStep_rest hrest]

/-! ## The entries -/

/-- An interrupt entry through a vector, in the terms of the statements (60_exceptions R256). -/
theorem interruptEntry_next (v : Word) (s : State) (h : 0x8000 ≤ v.toNat) (h' : v.toNat < 0xFFFF) :
    interruptEntry v s = { s with
      ram := Store.write (Store.write (Store.write s.ram (256 + s.sp.toNat) (hiByte s.pc))
        (256 + (s.sp - 1).toNat) (loByte s.pc)) (256 + (s.sp - 2).toNat) (statusByte s.p false)
      sp := s.sp - 3
      p := { s.p with i := true }
      pc := joinBytes (prgRead s (v.toNat + 1)) (prgRead s v.toNat)
      stepCycles := 7 } := by
  have hdown2 : s.sp - 1 - 1 = s.sp - 2 := BitVec.sub_sub s.sp 1 1
  have hdown3 : s.sp - 2 - 1 = s.sp - 3 := BitVec.sub_sub s.sp 2 1
  rw [interruptEntry_eq v s h h', image_eq_statusByte, hdown2, hdown3]

theorem emulate_nmi (hstall : s.cyclesToHalt = 0) (hreset : s.resetMark = false) (hnmi : s.nmiPending = true) :
    emulate s = .next (interruptEntry nmiVector { s with nmiPending := false }) := by
  simp [emulate, sample, hstall, hreset, hnmi]

theorem emulate_irq (hstall : s.cyclesToHalt = 0) (hreset : s.resetMark = false) (hnmi : s.nmiPending = false)
    (hirq : s.irqPending = true) (hi : s.p.i = false) :
    emulate s = .next (interruptEntry irqVector { s with irqPending := false }) := by
  simp [emulate, sample, hstall, hreset, hnmi, hirq, hi]

theorem emulate_maskedIrq (hstall : s.cyclesToHalt = 0) (hreset : s.resetMark = false) (hnmi : s.nmiPending = false)
    (hirq : s.irqPending = true) (hi : s.p.i = true) : emulate s = instructionStep (maskIrq s) := by
  simp [emulate, sample, hstall, hreset, hnmi, hirq, hi]

theorem emulate_reset (hstall : s.cyclesToHalt = 0) (hreset : s.resetMark = true) : emulate s = .next (resetStep s) := by
  simp [emulate, sample, hstall, hreset]

/-- A masked request stays just under the policy `hold` (60_exceptions R254). -/
theorem maskIrq_eq (h : s.irqPending = true) :
    maskIrq s = { s with irqPending := decide (s.cfg.maskedIrqPolicy = .hold) } := by
  unfold maskIrq
  cases s.cfg.maskedIrqPolicy with
  | hold => rw [decide_eq_true rfl, ← h]
  | drop => rfl

/-- Settles O9: sampled before an IRQ, the NMI is one entry through its vector, over the cleared latch. -/
theorem nmiEntry : Obligations.NmiEntry := by
  intro s hstall hreset hnmi
  rw [emulate_nmi hstall hreset hnmi, interruptEntry_next _ _ (by decide) (by decide)]
  rfl

/-- Settles O10: masked, the request is held or dropped before the instruction; else it is one entry through its vector. -/
theorem irqTakenOrMasked : Obligations.IrqTakenOrMasked := by
  intro s hstall hreset hnmi hirq
  refine ⟨fun hi => ?masked, fun hi => ?taken⟩
  case masked => rw [emulate_maskedIrq hstall hreset hnmi hirq hi, maskIrq_eq hirq]
  case taken =>
    rw [emulate_irq hstall hreset hnmi hirq hi, interruptEntry_next _ _ (by decide) (by decide)]
    rfl

/-! ## The return -/

/-- RTI returns from an exception taken: to the return address, with the flags and S of before. -/
theorem exec_rti_takeException (ret : Word) (b : Bool) (vector : Word) (c : Nat) (s : State) (h : 0x8000 ≤ vector.toNat)
    (h' : vector.toNat < 0xFFFF) : ∃ u, exec .rti ((takeException ret b vector s).setCycles c) = .next u ∧
      u.pc = ret ∧ u.p = s.p ∧ u.sp = s.sp ∧ u.a = s.a ∧ u.x = s.x ∧ u.y = s.y := by
  have hup1 : s.sp - 1 - 1 - 1 + 1 = s.sp - 1 - 1 := BitVec.sub_add_cancel _ _
  have hup2 : s.sp - 1 - 1 + 1 = s.sp - 1 := BitVec.sub_add_cancel _ _
  have hup3 : s.sp - 1 + 1 = s.sp := BitVec.sub_add_cancel _ _
  have hlow : 256 + (s.sp - 1).toNat ≠ 256 + (s.sp - 1 - 1).toNat := by bv_omega
  have hhigh : 256 + s.sp.toNat ≠ 256 + (s.sp - 1).toNat ∧ 256 + s.sp.toNat ≠ 256 + (s.sp - 1 - 1).toNat := by bv_omega
  refine ⟨(returnFromException ((takeException ret b vector s).setCycles c)).setCycles 6, rfl, ?_⟩
  rw [returnFromException_eq, takeException_eq _ _ _ _ h h']
  simp only [State.setCycles, hup1, hup2, hup3, store_read_write_same, store_read_write_other _ _ _ _ hlow,
    store_read_write_other _ _ _ _ hhigh.1, store_read_write_other _ _ _ _ hhigh.2, flags_ofByte_image, joinBytes_hi_lo, and_self]

/-- Settles O27: an interrupt entry and a BRK are each one exception taken, which RTI returns from. -/
theorem rtiUndoesEntry : Obligations.RtiUndoesEntry := by
  intro s
  refine ⟨fun hstall hreset htaken => ?entry, ?brk⟩
  case entry =>
    obtain hnmi | ⟨hnmi, hirq, hi⟩ := htaken
    · obtain ⟨u, hu⟩ := exec_rti_takeException s.pc false nmiVector 7 { s with nmiPending := false } (by decide) (by decide)
      exact ⟨_, u, emulate_nmi hstall hreset hnmi, hu⟩
    · obtain ⟨u, hu⟩ := exec_rti_takeException s.pc false irqVector 7 { s with irqPending := false } (by decide) (by decide)
      exact ⟨_, u, emulate_irq hstall hreset hnmi hirq hi, hu⟩
  case brk =>
    obtain ⟨u, hu⟩ := exec_rti_takeException (s.pc + 1) true irqVector 7 s (by decide) (by decide)
    exact ⟨_, u, rfl, hu⟩

/-! ## No fault -/

theorem instructionStep_next (h : s.cfg.illegalPolicy = .nop) : ∃ t, instructionStep s = .next t := by
  refine exec_next _ _ ?_
  rw [fetch_effects s]
  exact h

/-- A CPU step goes on (60_exceptions R250). -/
theorem emulate_next (h : s.cfg.illegalPolicy = .nop) : ∃ t, emulate s = .next t := by
  unfold emulate
  split
  · exact ⟨_, rfl⟩
  · split
    · exact ⟨_, rfl⟩
    · exact ⟨_, rfl⟩
    · exact ⟨_, rfl⟩
    · refine instructionStep_next ?_
      unfold maskIrq
      split <;> exact h
    · exact instructionStep_next h

theorem loopTurn_next {u : State} (h : emulate s = .next u) : loopTurn s = .next (runDevices u) := by
  unfold loopTurn
  rw [h]

/-- Settles O6: at a break the step resumes; running, it is a CPU step, which goes on, and the devices. -/
theorem stepGoesOn : Obligations.StepGoesOn := by
  intro s hrun hpolicy
  unfold step frameTurn
  obtain hrun | hbreak := hrun
  · rw [hrun]
    have hcfg : (if s.inFrame then s else beginFrame s).cfg.illegalPolicy = .nop := by split <;> exact hpolicy
    obtain ⟨u, hu⟩ := emulate_next hcfg
    exact ⟨_, loopTurn_next hu⟩
  · rw [hbreak]
    exact ⟨_, rfl⟩

end Sys2Proof.Machine
end

section
/-! SUPPORT. A marked reset against the reset table, component by component (70_reset_and_hazards R520, R521; 50_ppu R301;
51_apu R361; 52_mappers R420, R426, R431, R446). -/

namespace Sys2Proof.Machine

/-- A PPU after reset shows no row: every word of the frame buffer is its reset value (50_ppu R300, R301). -/
theorem frameWord_afterReset (m : Mirroring) (y x : Nat) : frameWord (Ppu.afterReset m) y x = 0xFF000000#32 := rfl

/-- The mapper at power-on, in numbers: registers and windows by the image's mapper. -/
theorem powerOn_table (rom : RomImage) (m : Memory) :
    let t := Mapper.powerOn rom m
    (rom.mapperId = .nrom → t.regs = .nrom ∧
      t.prgWin.toList = [0 % nb8 rom, 1 % nb8 rom, 2 % nb8 rom, 3 % nb8 rom] ∧ t.chrWin.toList = [0, 1, 2, 3, 4, 5, 6, 7]) ∧
    (rom.mapperId = .mmc1 → t.regs = .mmc1 Mmc1.powerOn ∧
      (rom.wellFormed = true → t.prgWin.toList = [0, 1, 2 * nb16 rom - 2, 2 * nb16 rom - 1] ∧
        t.chrWin.toList = [0, 1, 2, 3, 4, 5, 6, 7])) ∧
    (rom.mapperId = .mmc3 → t.regs = .mmc3 Mmc3.powerOn ∧
      (rom.wellFormed = true → t.prgWin.toList = [0, 1, nb8 rom - 2, nb8 rom - 1] ∧
        t.chrWin.toList = [0, 1, 2, 3, 4, 5, 6, 7])) := by
  unfold Mapper.powerOn
  refine ⟨fun h => ?_, fun h => ?_, fun h => ?_⟩ <;> rw [h]
  · exact ⟨rfl, rfl, rfl⟩
  · exact ⟨rfl, mmc1_powerOn_windows rom⟩
  · exact ⟨rfl, mmc3_powerOn_windows rom⟩

/-- Settles O11: the step is the reset operation, whose result is read off block by block; the mapper is the one at power-on. -/
theorem markedResetFirst : Obligations.MarkedResetFirst := by
  intro s hstall hreset
  refine ⟨_, emulate_reset hstall hreset, ?_⟩
  unfold resetStep performReset
  rw [resetWith_eq]
  refine ⟨rfl, rfl, rfl, rfl, rfl,
    rfl, rfl, rfl, rfl, rfl, rfl, rfl, rfl, rfl, rfl, rfl, -- CPU registers, RAM and flags
    rfl, rfl, rfl, rfl, rfl, rfl, rfl, rfl, rfl, rfl, rfl, rfl, rfl, rfl, -- PPU registers and position
    fun _ => rfl, fun _ => rfl, fun _ => rfl, rfl, rfl, rfl, rfl, rfl, rfl, -- PPU memories, mirroring and frame end
    frameWord_afterReset _, rfl, rfl, rfl, rfl, -- frame buffer, APU and controller ports
    powerOn_prgRam _ _, fun i => ?chrRam, powerOn_table s.rom _, rfl⟩
  case chrRam =>
    change Store.read (Mapper.powerOn s.rom _).chrRam i = 0#8
    rw [powerOn_chrRam]
    rfl

end Sys2Proof.Machine
end

section
/-! SUPPORT. The controller ports after a strobe (53_orchestrator R500 to R502). -/

namespace Sys2Proof.Machine

theorem memWrite_port1 (v : Byte) (s : State) : memWrite 0x4016#16 v s = writeStrobe v s := by
  unfold memWrite
  rw [busTarget_eq_port1_iff.2 rfl]

theorem memRead_port1 (s : State) : memRead 0x4016#16 s = readPort1 s := by
  unfold memRead
  rw [busTarget_eq_port1_iff.2 rfl]

theorem memRead_port2 (s : State) : memRead 0x4017#16 s = readPort2 s := by
  unfold memRead
  rw [busTarget_eq_port2_iff.2 rfl]

/-- Raising and lowering the strobe loads both shift registers with the buttons (53_orchestrator R500). -/
theorem strobe_loads {v w : Byte} (hv : v.getLsbD 0 = true) (hw : w.getLsbD 0 = false) (s : State) :
    memWrite 0x4016#16 w (memWrite 0x4016#16 v s) =
      { s with strobe := false, ctrlShift0 := s.inputs.buttons0, ctrlShift1 := s.inputs.buttons1 } := by
  rw [memWrite_port1, memWrite_port1]
  unfold writeStrobe
  rw [if_pos hv, hw, if_neg Bool.false_ne_true]

/-- With the strobe low, a read of `a` gives the lowest bit of the shift register `reg` and shifts a one in at its top
(53_orchestrator R501). -/
structure SerialPort (a : Word) (reg : State → Byte) : Prop where
  bit     : ∀ s, s.strobe = false → (memRead a s).1.getLsbD 0 = (reg s).getLsbD 0
  shifted : ∀ s, s.strobe = false → reg (memRead a s).2 = (reg s >>> 1) ||| 0x80#8
  strobe  : ∀ s, (memRead a s).2.strobe = s.strobe

theorem shiftController_low (shift buttons : Byte) :
    shiftController false shift buttons = (shift.getLsbD 0, (shift >>> 1) ||| 0x80#8) := rfl

theorem port1_serial : SerialPort 0x4016#16 State.ctrlShift0 where
  bit s h := by
    simp only [memRead_port1, readPort1, h, shiftController_low, BitVec.getLsbD_append]
    simp
  shifted s h := by simp only [memRead_port1, readPort1, h, shiftController_low]
  strobe s := by rw [memRead_port1]; rfl

theorem port2_serial : SerialPort 0x4017#16 State.ctrlShift1 where
  bit s h := by
    simp only [memRead_port2, readPort2, h, shiftController_low, BitVec.getLsbD_append]
    simp
  shifted s h := by simp only [memRead_port2, readPort2, h, shiftController_low]
  strobe s := by rw [memRead_port2]; rfl

/-- A shifted register: each bit is the one above it, and the top one is 1. -/
theorem getLsbD_shifted (r : Byte) {k : Nat} (hk : k < 8) :
    ((r >>> 1) ||| 0x80#8).getLsbD k = if k + 1 < 8 then r.getLsbD (k + 1) else true := by
  have htop : ∀ j, j < 8 → (0x80#8).getLsbD j = decide (j = 7) := by decide
  rw [BitVec.getLsbD_or, BitVec.getLsbD_ushiftRight, htop k hk, Nat.add_comm 1 k]
  split_ifs with h
  · rw [decide_eq_false (by omega), Bool.or_false]
  · rw [decide_eq_true (by omega), Bool.or_true]

/-- Read number `k` of a serial port gives bit `k` of the register, and 1 once the eight bits are read. -/
theorem serialPort_read {a : Word} {reg : State → Byte} (P : SerialPort a reg) (k : Nat) (s : State)
    (h : s.strobe = false) :
    (memRead a (readsAfter a k s)).1.getLsbD 0 = if k < 8 then (reg s).getLsbD k else true := by
  induction k generalizing s with
  | zero => exact P.bit s h
  | succ k ih =>
    rw [readsAfter, ih _ ((P.strobe s).trans h), P.shifted s h]
    by_cases hk : k < 8
    · rw [if_pos hk, getLsbD_shifted _ hk]
    · rw [if_neg hk, if_neg (by omega)]

/-- Settles O57: the strobe loads the buttons, and each port is then read serially. -/
theorem controllerReads : Obligations.ControllerReads := by
  intro k v w s hv hw ready
  have hready : ready = _ := strobe_loads hv hw s
  rw [hready]
  exact ⟨serialPort_read port1_serial k _ rfl, serialPort_read port2_serial k _ rfl⟩

end Sys2Proof.Machine
end

section
/-! SUPPORT. A break and its resume against the dots of an unbroken run (53_orchestrator R481, R482), and the record of a
savestate against its restore (R485 to R491). -/

namespace Sys2Proof.Machine

/-! ## Break and resume -/

/-- The same machine with the break predicate `never`. -/
def State.unbroken (s : State) : State := withInputs { s.inputs with brk := .never } s

@[simp] theorem ppuDot_inputs_eq (s : State) : (ppuDot s).2.inputs = s.inputs := by rw [ppuDot_effects s]
@[simp] theorem ppuDot_runState (s : State) : (ppuDot s).2.runState = s.runState := by rw [ppuDot_effects s]
@[simp] theorem ppuDot_inFrame (s : State) : (ppuDot s).2.inFrame = s.inFrame := by rw [ppuDot_effects s]
@[simp] theorem ppuDot_breakpointCycles (s : State) : (ppuDot s).2.breakpointCycles = s.breakpointCycles := by
  rw [ppuDot_effects s]

theorem ppuDot_unbroken (s : State) : ppuDot s.unbroken = ((ppuDot s).1, (ppuDot s).2.unbroken) := by
  unfold State.unbroken
  rw [ppuDot_inputs, ppuDot_inputs_eq]

/-- A dot of an unbroken run that does not end the frame: the run goes on. -/
theorem runDots_unbroken {s : State} (h : (ppuDot s).1 = false) (n : Nat) :
    runDots (n + 1) s.unbroken = runDots n (ppuDot s).2.unbroken := by
  rw [runDots, ppuDot_unbroken]
  dsimp only
  rw [h]
  rfl

/-- Resuming performs the outstanding dots on the machine as it was when the break was taken. -/
theorem resumeFrame_takeBreak {s : State} (hrun : s.runState = .running) (hin : s.inFrame = true)
    (hzero : s.breakpointCycles = 0) (n : Nat) : resumeFrame (takeBreak n s).unbroken = runDots n s.unbroken := by
  have hback : s.unbroken = { s.unbroken with breakpointCycles := 0, runState := .running, inFrame := true } := by
    rw [← hrun, ← hin, ← hzero]
    rfl
  rw [hback]
  rfl

/-- Settles O58: by induction over the dots; a break leaves as many as the unbroken run still has to do. -/
theorem resumeIsExact : Obligations.ResumeIsExact := by
  intro n s hrun hin hzero unbroken hbroke
  change resumeFrame (runDots n s).unbroken = runDots n s.unbroken
  induction n generalizing s with
  | zero => exact absurd (hrun.symm.trans hbroke) (by decide)
  | succ n ih =>
    have hrun' := (ppuDot_runState s).trans hrun
    have hin' := (ppuDot_inFrame s).trans hin
    have hzero' := (ppuDot_breakpointCycles s).trans hzero
    rw [runDots] at hbroke ⊢
    cases hend : (ppuDot s).1 with
    | true =>
      rw [hend, if_pos rfl] at hbroke
      exact absurd (hrun'.symm.trans hbroke) (by decide)
    | false =>
      rw [hend, if_neg Bool.false_ne_true] at hbroke
      rw [if_neg Bool.false_ne_true, runDots_unbroken hend]
      split_ifs at hbroke ⊢ with hbrk
      · exact resumeFrame_takeBreak hrun' hin' hzero' n
      · exact ih _ hrun' hin' hzero' hbroke

/-! ## The savestate -/

/-- Restoring a record sets every state element it holds: all but what a machine keeps as its own (53_orchestrator R491). -/
theorem restore_capture (m s : State) : restore (capture m) s = { m with
    inputs := s.inputs, rom := s.rom, cfg := s.cfg, draws := s.draws, stepCycles := s.stepCycles, inFrame := s.inFrame,
    samples := s.samples } := rfl

theorem toJson_eq {m : State} (hin : m.inFrame = false) (hloaded : m.runState ≠ .unloaded) : toJson m = .ok (capture m) := by
  unfold toJson
  rw [hin, if_neg Bool.false_ne_true, if_neg hloaded]

/-- A record of version 1 that fits the mapper and the lengths is restored. -/
theorem fromJson_eq {r : Savestate} {s : State} (hin : s.inFrame = false) (hversion : r.version = 1)
    (hloaded : s.runState ≠ .unloaded) (hmapper : r.mapper.regs.tag = s.rom.mapperId)
    (hfit : r.lengthsFit s.rom = true) : fromJson r s = .ok (restore r s) := by
  unfold fromJson
  rw [hin, if_neg Bool.false_ne_true, if_neg (not_not.2 hversion), if_neg hloaded, if_neg (not_not.2 hmapper), if_pos hfit]

/-- Settles O59: the record passes every check, and its restore sets every element from it. -/
theorem savestateRoundTrip : Obligations.SavestateRoundTrip := by
  intro m s hm hmloaded hs hsloaded hmapper hfit
  exact ⟨capture m, toJson_eq hm hmloaded,
    (fromJson_eq hs rfl hsloaded hmapper hfit).trans (congrArg _ (restore_capture m s))⟩

end Sys2Proof.Machine
end

section
/-! SUPPORT. How many dots a frame call has left, and that every step of it uses some up (50_ppu R303 to R306, R309, R310;
53_orchestrator R475, R480, R484; log 23). -/

namespace Sys2Proof.Machine

variable {s t u : State}

/-! ## The position over a dot, with the odd-frame skip -/

/-- The positions of a frame. -/
def frameDots (s : State) : Nat := s.cfg.scanlinesPerFrame * 341

/-- Positions the odd-frame skip may still pass over before the last scanline ends (50_ppu R309). -/
def skipAhead (s : State) : Nat := if s.ppu.scanline ≤ 19 then 1 else 0

theorem RasterOk.rasterNumber_lt (h : RasterOk s) : rasterNumber s < frameDots s := by
  obtain ⟨hl, hx, -, -⟩ := h
  unfold rasterNumber frameDots
  omega

/-- The position of `t` comes after that of `s`: it is the start of the frame, whose end is then requested, after the last
position; before, it is one position on, or two with the skip used up. -/
inductive NextPosition (s t : State) : Prop
  | wraps (last : rasterNumber s + 1 = frameDots s) (number : rasterNumber t = 0)
      (request : t.ppu.requestEndFrame = true) (counter : t.ppu.nmiCounter = s.cfg.nmiDelayDots)
  | moves (on : rasterNumber s < rasterNumber t)
      (within : rasterNumber t + skipAhead t ≤ rasterNumber s + skipAhead s + 1)
      (request : t.ppu.requestEndFrame = s.ppu.requestEndFrame) (counter : t.ppu.nmiCounter = s.ppu.nmiCounter)

theorem advanceDot_nextPosition (s : State) : NextPosition s (advanceDot s) := by
  unfold advanceDot
  split
  case isFalse hx' =>
    refine .moves ?_ ?_ rfl rfl
    · simp only [rasterNumber]
      omega
    · simp only [rasterNumber, skipAhead]
      omega
  case isTrue hx' =>
    by_cases hlast : s.ppu.scanline + 1 = s.cfg.scanlinesPerFrame
    · rw [endScanline_last { s with ppu := { s.ppu with curX := 0 } } hlast]
      refine .wraps ?_ ?_ rfl rfl
      · simp only [rasterNumber, frameDots]
        omega
      · simp only [rasterNumber, enterVBlank]
    · obtain ⟨hl', hx'', hreq, hn, -⟩ := endScanline_position { s with ppu := { s.ppu with curX := 0 } } hlast
      generalize endScanline { s with ppu := { s.ppu with curX := 0 } } = t at hl' hx'' hreq hn ⊢
      dsimp only [skipsDot] at hl' hx'' hreq hn
      have hcol : t.ppu.curX = 0 ∨ s.ppu.scanline = 19 ∧ t.ppu.curX = 1 := hx''.imp_right fun ⟨hskip, h1⟩ => ⟨hskip.1, h1⟩
      refine .moves ?_ ?_ hreq hn
      · unfold rasterNumber
        omega
      · unfold rasterNumber skipAhead
        split_ifs <;> omega

/-! ## The dots left -/

/-- The dots after which a frame has ended at the latest: those of a debounce that ends before the position starts the frame
again, or else those up to that and the debounce it then starts. -/
def dotsLeft (s : State) : Nat :=
  if s.ppu.requestEndFrame = true ∧ s.ppu.nmiCounter + rasterNumber s + skipAhead s ≤ frameDots s then s.ppu.nmiCounter
  else frameDots s - rasterNumber s + s.cfg.nmiDelayDots

theorem dotsLeft_le (s : State) : dotsLeft s ≤ frameDots s + s.cfg.nmiDelayDots := by
  unfold dotsLeft
  split <;> omega

theorem dotsLeft_pos (h : RasterOk s) : 0 < dotsLeft s := by
  have hlt := h.rasterNumber_lt
  unfold dotsLeft
  split
  · next hreq => exact h.toCome hreq.1
  · omega

theorem dotsLeft_congr (e : SameRaster s.ppu t.ppu) (hcfg : t.cfg = s.cfg) : dotsLeft t = dotsLeft s := by
  obtain ⟨hl, hx, hr, hn⟩ := e
  unfold dotsLeft rasterNumber skipAhead frameDots
  rw [hl, hx, hr, hn, hcfg]

theorem skipAhead_le (s : State) : skipAhead s ≤ 1 := by
  unfold skipAhead
  split <;> omega

/-- The machine with the debounce counted, as a dot that does not end the frame counts it before it moves on. -/
def State.counted (s : State) : State := { s with ppu := countedPpu s.ppu }

theorem counted_rasterNumber (s : State) : rasterNumber s.counted = rasterNumber s := by
  obtain ⟨hl, hx, -⟩ := countedPpu_fields s.ppu
  simp only [rasterNumber, State.counted, hl, hx]

theorem counted_skipAhead (s : State) : skipAhead s.counted = skipAhead s := by
  obtain ⟨hl, -⟩ := countedPpu_fields s.ppu
  simp only [skipAhead, State.counted, hl]

/-- A dot that does not end the frame uses up a dot. -/
theorem dotsLeft_ppuDot (h : RasterOk s) (hdelay : s.cfg.nmiDelayDots < frameDots s) (hgo : (ppuDot s).1 = false) :
    dotsLeft (ppuDot s).2 < dotsLeft s := by
  have hnotdue : ¬ (s.ppu.requestEndFrame = true ∧ s.ppu.nmiCounter ≤ 1) := fun ⟨hreq, hn⟩ =>
    Bool.false_ne_true (hgo.symm.trans (ppuDot_ends s hreq hn).1)
  have hdot : (ppuDot s).2 = advanceDot s.counted := congrArg Prod.snd (ppuDot_goes_of_not_due s hnotdue)
  obtain ⟨-, -, hreq, hn, -⟩ := countedPpu_fields s.ppu
  have hnext : NextPosition s.counted (ppuDot s).2 := hdot ▸ advanceDot_nextPosition s.counted
  have hcfg : (ppuDot s).2.cfg = s.cfg := (sameParameters_of_dot (ppuDot_effects s)).1
  have hdots : frameDots (ppuDot s).2 = frameDots s := congrArg (·.scanlinesPerFrame * 341) hcfg
  have hlt := h.rasterNumber_lt
  have hskip := skipAhead_le (ppuDot s).2
  unfold dotsLeft
  rw [hdots, hcfg]
  obtain ⟨hlast, hnum', hreq', hn'⟩ | ⟨hon, hwithin, hreq', hn'⟩ := hnext
  · have hlast : rasterNumber s + 1 = frameDots s := counted_rasterNumber s ▸ hlast
    have hn' : (ppuDot s).2.ppu.nmiCounter = s.cfg.nmiDelayDots := hn'
    rw [if_pos ⟨hreq', by omega⟩]
    split_ifs with hs
    · have hdue : ¬ s.ppu.nmiCounter ≤ 1 := fun h1 => hnotdue ⟨hs.1, h1⟩
      omega
    · omega
  · rw [counted_rasterNumber] at hon hwithin
    rw [counted_skipAhead] at hwithin
    rw [hreq'.trans hreq, hn'.trans hn]
    cases hs : s.ppu.requestEndFrame with
    | false =>
      simp only [Bool.false_eq_true, false_and, if_false]
      omega
    | true =>
      have hdue : ¬ s.ppu.nmiCounter ≤ 1 := fun h1 => hnotdue ⟨hs, h1⟩
      simp only [true_and, if_true]
      split_ifs <;> omega

/-- `n` dots use up `n`, unless the frame call ends. -/
theorem runDots_uses (n : Nat) (h : RasterOk s) (hdelay : s.cfg.nmiDelayDots < frameDots s) :
    (runDots n s).inFrame = false ∨ (dotsLeft (runDots n s) + n ≤ dotsLeft s ∧
      (runDots n s).resetMark = s.resetMark ∧ (runDots n s).runState = s.runState) := by
  induction n generalizing s with
  | zero => exact .inr ⟨le_rfl, rfl, rfl⟩
  | succ n ih =>
    rw [runDots]
    split_ifs with hend hbreak
    · exact .inl rfl
    · exact .inl rfl
    · have hcfg : (ppuDot s).2.cfg = s.cfg := (sameParameters_of_dot (ppuDot_effects s)).1
      have hdots : frameDots (ppuDot s).2 = frameDots s := congrArg (·.scanlinesPerFrame * 341) hcfg
      have hdot := dotsLeft_ppuDot h hdelay (Bool.eq_false_iff.2 hend)
      obtain hended | ⟨hleft, hmark, hrun⟩ := ih (ppuDot_rasterOk s h) (by rw [hdots, hcfg]; exact hdelay)
      · exact .inl hended
      · exact .inr ⟨by omega, hmark.trans (by rw [ppuDot_effects s]), hrun.trans (by rw [ppuDot_effects s])⟩

/-! ## The cycles of a CPU step -/

/-- A CPU step that spends cycles and no dots: the raster position, the run state and a marked reset stay. -/
structure SpendsCycles (s u : State) : Prop where
  cycles    : 1 ≤ u.stepCycles
  raster    : SameRaster s.ppu u.ppu
  resetMark : u.resetMark = s.resetMark := by rfl
  runState  : u.runState = s.runState := by rfl

theorem opRow_cycles_pos : ∀ op : Byte, 1 ≤ (opRow op).cycles := by decide

/-- Every well-formed instruction takes a cycle at least. -/
theorem exec_cycles_pos {i : Instr} (hw : i.wellFormed = true) (h : exec i s = .next t) : 1 ≤ t.stepCycles := by
  obtain ⟨hbranch, hother⟩ := cyclesMatchOpcodeTable i s t hw h
  have hrow : 1 ≤ i.row.cycles := opRow_cycles_pos i.opcode
  by_cases hrel : i.row.mode = .rel
  · have := (hbranch hrel).1
    omega
  · obtain hbase | ⟨-, hcrossed⟩ := hother hrel <;> omega

theorem fetch_wellFormed (s : State) : (fetch s).1.wellFormed = true := by
  unfold fetch
  dsimp only
  split <;> exact buildInstr_wellFormed ..

theorem SameRaster.finish {c : Nat} (h : finish c u = .next t) (k : SameRaster s.ppu u.ppu) : SameRaster s.ppu t.ppu := by
  rw [← outcome_next_inj h]
  exact k

/-- An instruction moves no dot: what it does to the PPU is reads and writes of the bus. -/
theorem exec_raster {i : Instr} (h : exec i s = .next t) : SameRaster s.ppu t.ppu := by
  cases hi : storesToMemory i with
  | false => exact .of_own (ownEffects_of_register (exec_register_effects i s t hi h))
  | true =>
    simp only [storesToMemory, Bool.or_eq_true, Option.isSome_iff_exists, Prod.exists] at hi
    obtain (⟨r, f, hf⟩ | ⟨op, f, hf⟩) | hpush := hi
    · rw [exec_storeForm hf, storeValue_eq] at h
      rw [← outcome_next_inj h]
      exact memWrite_raster _ _ s
    · rw [exec_modifyForm hf, modifyMemory_eq (byteValueIs_byteValue op)] at h
      rw [← outcome_next_inj h]
      exact (SameRaster.of_read (memRead_effects _ s)).trans (memWrite_raster _ _ _)
    · cases i with
      | pha | php => exact .finish h (by rw [push_eq]; exact {})
      | jsr w => exact .finish h (by rw [push16_eq]; exact {})
      | brk => exact .finish h (by rw [takeException_eq _ _ _ _ (by decide) (by decide)]; exact {})
      | _ => exact absurd hpush Bool.false_ne_true

theorem instructionStep_spends (h : instructionStep s = .next t) : SpendsCycles s t where
  cycles    := exec_cycles_pos (fetch_wellFormed s) h
  raster    := (SameRaster.of_own (ownEffects_of_register (fetch_effects s))).trans (exec_raster h)
  resetMark := by rw [instructionStep_effects s t h]
  runState  := by rw [instructionStep_effects s t h]

/-- An entry spends its seven cycles, whatever latches were cleared before it. -/
theorem interruptEntry_spends (v : Word) (s : State) (nmi irq : Bool) (h : 0x8000 ≤ v.toNat) (h' : v.toNat < 0xFFFF) :
    SpendsCycles s (interruptEntry v { s with nmiPending := nmi, irqPending := irq }) := by
  rw [interruptEntry_eq v _ h h']
  exact { cycles := (by decide : 1 ≤ 7), raster := {} }

/-- A CPU step performs a marked reset, or spends a cycle at least. -/
theorem emulate_spends (hchunk : 0 < s.cfg.stallChunk) (h : emulate s = .next u) :
    (s.resetMark = true ∧ u.resetMark = false ∧ u.runState = s.runState) ∨ SpendsCycles s u := by
  unfold emulate at h
  split at h
  · next hstall =>
    rw [← outcome_next_inj h]
    exact .inr { cycles := by unfold stallStep; dsimp only; omega, raster := {} }
  · split at h
    · next hsample =>
      rw [← outcome_next_inj h]
      refine .inl ⟨?_, rfl, rfl⟩
      unfold sample at hsample
      split_ifs at hsample with hmark
      exact hmark
    · rw [← outcome_next_inj h]
      exact .inr (interruptEntry_spends nmiVector s false s.irqPending (by decide) (by decide))
    · rw [← outcome_next_inj h]
      exact .inr (interruptEntry_spends irqVector s s.nmiPending false (by decide) (by decide))
    · refine .inr ?_
      unfold maskIrq at h
      split at h
      · exact instructionStep_spends h
      · obtain ⟨hcycles, hraster, hmark, hrun⟩ := instructionStep_spends h
        exact ⟨hcycles, hraster, hmark, hrun⟩
    · exact .inr (instructionStep_spends h)

/-! ## The call -/

/-- What the end of a frame call rests on, and every step keeps. -/
structure CallOk (s : State) : Prop where
  raster : RasterOk s
  policy : s.cfg.illegalPolicy = .nop
  chunk  : 0 < s.cfg.stallChunk
  delay  : s.cfg.nmiDelayDots < frameDots s

theorem CallOk.congr (h : CallOk s) (hraster : RasterOk t) (hcfg : t.cfg = s.cfg) : CallOk t where
  raster := hraster
  policy := by rw [hcfg]; exact h.policy
  chunk  := by rw [hcfg]; exact h.chunk
  delay  := by unfold frameDots; rw [hcfg]; exact h.delay

/-- The dots a call has left at most: a marked reset gives it a whole frame and debounce again. -/
def callLeft (s : State) : Nat := dotsLeft s + if s.resetMark then frameDots s + s.cfg.nmiDelayDots else 0

theorem callLeft_le (s : State) : callLeft s ≤ 2 * (frameDots s + s.cfg.nmiDelayDots) := by
  have hle := dotsLeft_le s
  unfold callLeft
  split <;> omega

/-- The devices use up three dots a cycle, unless the frame call ends. -/
theorem runDevices_uses (h : CallOk u) : (runDevices u).inFrame = false ∨
    (dotsLeft (runDevices u) + 3 * u.stepCycles ≤ dotsLeft u ∧
      (runDevices u).resetMark = u.resetMark ∧ (runDevices u).runState = u.runState) := by
  have e := clockFrameCounter_effects u.stepCycles u
  have hcfg : (clockFrameCounter u.stepCycles u).cfg = u.cfg := by rw [e]
  have hraster : SameRaster u.ppu (clockFrameCounter u.stepCycles u).ppu := .of_own (ownEffects_of_apu e)
  have hok := h.congr (h.raster.congr hraster hcfg) hcfg
  have huses := runDots_uses (3 * u.stepCycles) hok.raster hok.delay
  rw [dotsLeft_congr hraster hcfg, show (clockFrameCounter u.stepCycles u).resetMark = u.resetMark by rw [e],
    show (clockFrameCounter u.stepCycles u).runState = u.runState by rw [e]] at huses
  unfold runDevices
  dsimp only
  rw [clockFrameCounter_stepCycles]
  exact huses

/-- A step inside a call ends the call, or it goes on with fewer dots left. -/
theorem step_uses (h : CallOk s) (hrun : s.runState = .running) (hin : s.inFrame = true) : ∃ t, step s = .next t ∧
    (t.inFrame = false ∨ (CallOk t ∧ t.runState = .running ∧ callLeft t < callLeft s)) := by
  obtain ⟨u, hu⟩ := emulate_next h.policy
  have hstep : step s = .next (runDevices u) := by
    simp only [step, frameTurn, hrun, hin, if_true, loopTurn_next hu]
  have hucfg := (emulate_parameters s u hu).1
  have hok := h.congr (keeps_emulate keeps_rasterOk s u hu h.raster) hucfg
  have htcfg := (runDevices_parameters u).1.trans hucfg
  have htok := h.congr (keeps_step keeps_rasterOk s _ hstep h.raster) htcfg
  have hdots : frameDots u = frameDots s ∧ frameDots (runDevices u) = frameDots s := by
    unfold frameDots
    rw [hucfg, htcfg]
    exact ⟨rfl, rfl⟩
  have hpos := dotsLeft_pos h.raster
  refine ⟨_, hstep, ?_⟩
  obtain hended | ⟨hleft, hmark, hrun'⟩ := runDevices_uses hok
  · exact .inl hended
  · right
    unfold callLeft
    rw [hdots.2, htcfg, hmark]
    obtain ⟨hmarked, hunmarked, hrunu⟩ | k := emulate_spends h.chunk hu
    · have hle := dotsLeft_le u
      rw [hdots.1, hucfg] at hle
      refine ⟨htok, hrun'.trans (hrunu.trans hrun), ?_⟩
      rw [hmarked, hunmarked]
      simp only [if_true, Bool.false_eq_true, if_false]
      omega
    · have hcycles := k.cycles
      rw [dotsLeft_congr k.raster hucfg] at hleft
      refine ⟨htok, hrun'.trans (k.runState.trans hrun), ?_⟩
      rw [k.resetMark]
      omega

theorem frame_next {n : Nat} (h : step s = .next t) : frame (n + 1) s =
    if t.inFrame then frame n t else if t.runState = .midFrameBreak then .broke t else .frameDone t := by
  rw [frame, h]

/-- A step that ends the call gives its result. -/
theorem frame_ended {n : Nat} (h : step s = .next t) (hended : t.inFrame = false) :
    ∃ v, frame (n + 1) s = .frameDone v ∨ frame (n + 1) s = .broke v := by
  refine ⟨t, ?_⟩
  rw [frame_next h, hended, if_neg Bool.false_ne_true]
  split_ifs
  · exact .inr rfl
  · exact .inl rfl

/-- A call with more steps allowed than dots left ends. -/
theorem frame_ends (n : Nat) (h : CallOk s) (hrun : s.runState = .running) (hin : s.inFrame = true)
    (hn : callLeft s < n) : ∃ v, frame n s = .frameDone v ∨ frame n s = .broke v := by
  induction n generalizing s with
  | zero => omega
  | succ n ih =>
    obtain ⟨t, hstep, ht⟩ := step_uses h hrun hin
    cases hint : t.inFrame with
    | false => exact frame_ended hstep hint
    | true =>
      obtain hended | ⟨htok, htrun, hless⟩ := ht
      · exact absurd (hint.symm.trans hended) (by decide)
      · rw [frame_next hstep, hint, if_pos rfl]
        exact ih htok htrun hint (by omega)

/-- The bound holds two steps more than the dots a call can have left. -/
theorem callLeft_lt_frameFuel (hcfg : t.cfg = s.cfg) : callLeft t + 1 < frameFuel s := by
  have hle := callLeft_le t
  unfold frameDots at hle
  unfold frameFuel
  rw [hcfg] at hle
  omega

/-- The result of a call is that of any state with the same first step. -/
theorem frame_congr (n : Nat) (h : step s = step t) : frame (n + 1) s = frame (n + 1) t := by
  rw [frame, frame, h]

theorem step_beginFrame (hrun : s.runState = .running) (hin : s.inFrame = false) : step s = step (beginFrame s) := by
  have hrun' : (beginFrame s).runState = .running := hrun
  have hin' : (beginFrame s).inFrame = true := rfl
  simp only [step, frameTurn, hrun, hin, hrun', hin', Bool.false_eq_true, if_false, if_true]

/-- A call at its first step or within it ends. -/
theorem frame_ends_running (h : CallOk s) (hrun : s.runState = .running) :
    ∃ v, frame (frameFuel s) s = .frameDone v ∨ frame (frameFuel s) s = .broke v := by
  cases hin : s.inFrame with
  | true => exact frame_ends _ h hrun hin (Nat.lt_of_succ_lt (callLeft_lt_frameFuel rfl))
  | false =>
    have hraster : RasterOk (beginFrame s) :=
      keeps_rasterOk.own (s := { s with ppu := s.ppu.startFrame }) rfl (keeps_rasterOk.start s h.raster)
    have hend := frame_ends (frameFuel s) (h.congr hraster rfl) hrun rfl
      (Nat.lt_of_succ_lt (callLeft_lt_frameFuel rfl))
    obtain ⟨n, hn⟩ : ∃ n, frameFuel s = n + 1 := ⟨_, rfl⟩
    rw [hn] at hend ⊢
    rwa [frame_congr n (step_beginFrame hrun hin)]

/-- A call that resumes ends: the resume may use up no dot, and leaves one step more than dots. -/
theorem frame_ends_resumed (h : CallOk s) (hbreak : s.runState = .midFrameBreak) :
    ∃ v, frame (frameFuel s) s = .frameDone v ∨ frame (frameFuel s) s = .broke v := by
  have hstep : step s = .next (resumeFrame s) := by simp only [step, frameTurn, hbreak]
  have hcfg := (resumeFrame_parameters s).1
  have hok := h.congr (keeps_step keeps_rasterOk s _ hstep h.raster) hcfg
  have hleft := callLeft_lt_frameFuel hcfg
  obtain ⟨n, hn⟩ : ∃ n, frameFuel s = n + 1 := ⟨_, rfl⟩
  rw [hn] at hleft ⊢
  cases hin : (resumeFrame s).inFrame with
  | false => exact frame_ended hstep hin
  | true =>
    obtain hended | ⟨-, -, hrun⟩ := runDots_uses s.breakpointCycles
      (s := { s with breakpointCycles := 0, runState := .running, inFrame := true })
      (h.raster.congr {} rfl) h.delay
    · exact absurd (hin.symm.trans hended) (by decide)
    · rw [frame_next hstep, hin, if_pos rfl]
      exact frame_ends n hok hrun hin (by omega)

/-- Settles O60: running or resumed, the call has fewer dots left than steps allowed, and every step of it uses some up. -/
theorem frameCallEnds : Obligations.FrameCallEnds := by
  intro s hstate hpolicy hraster hchunk hdelay
  have hok : CallOk s := ⟨(rasterOk_iff s).1 hraster, hpolicy, hchunk, hdelay⟩
  exact hstate.elim (frame_ends_running hok) (frame_ends_resumed hok)

end Sys2Proof.Machine
end
